-- ==== Sys2Proof/Word.lean ====
section
/-! DEFINITION. The word types of the AES1 engine (spec/00_scope.md rules R9 to R11). -/

namespace Sys2Proof

/-- A byte, bits 7 down to 0 (R9). -/
abbrev Byte := BitVec 8

/-- A 32-bit register or bus word, bits 31 down to 0 (R9). -/
abbrev Word := BitVec 32

/-- A block: the 16 bytes `b[0] .. b[15]`, index 0 first (R10). Also the form of the key and the keystream (R47). -/
abbrev Block := Vector Byte 16

/-- The 8-byte nonce `n[0..7]` (10_state.md R31). -/
abbrev Nonce := Vector Byte 8

/-- The key schedule: the 44 words `w[0..43]` (10_state.md R40). -/
abbrev Schedule := Vector Word 44

end Sys2Proof
end

