-- ==== Sys2Proof/Syntax.lean ====
section
/-! DEFINITION. The command set: one constructor per row of spec/opcode_table.json (30_encoding.md R91). No command
names an operand in the table: the eleven rows of ADD_ROUND_KEY are the eleven legal values of its ROUND field (R92). -/

namespace Sys2Proof

/-- The 23 valid commands (R91, R94): 12 without an operand, and ADD_ROUND_KEY with each r = 0..10. -/
inductive Instr where
  /-- NOP, OP 0x00 (43_block_cipher.md R194). -/
  | nop
  /-- KEY_EXPAND, OP 0x01 (42_key_schedule.md R176). -/
  | keyExpand
  /-- ENCRYPT, OP 0x02 (43_block_cipher.md R192). -/
  | encrypt
  /-- DECRYPT, OP 0x03 (43_block_cipher.md R193). -/
  | decrypt
  /-- CTR_GEN, OP 0x04 (44_ctr.md R213). -/
  | ctrGen
  /-- CTR_XOR, OP 0x05 (44_ctr.md R214). -/
  | ctrXor
  /-- SUB_BYTES, OP 0x10 (41_round_primitives.md R150). -/
  | subBytes
  /-- INV_SUB_BYTES, OP 0x11 (R151). -/
  | invSubBytes
  /-- SHIFT_ROWS, OP 0x12 (R152). -/
  | shiftRows
  /-- INV_SHIFT_ROWS, OP 0x13 (R153). -/
  | invShiftRows
  /-- MIX_COLUMNS, OP 0x14 (R154). -/
  | mixColumns
  /-- INV_MIX_COLUMNS, OP 0x15 (R155). -/
  | invMixColumns
  /-- ADD_ROUND_KEY r, OP 0x16, r = 0..10, a constructor for each r (R156). -/
  | addRoundKey0
  | addRoundKey1
  | addRoundKey2
  | addRoundKey3
  | addRoundKey4
  | addRoundKey5
  | addRoundKey6
  | addRoundKey7
  | addRoundKey8
  | addRoundKey9
  | addRoundKey10
deriving DecidableEq, Repr

end Sys2Proof
end

