-- ==== Sys2Proof/WellFormed.lean ====
section
/-! DEFINITION. What makes a command word valid (30_encoding.md R90 to R94, R96). A constructor of `Instr` has no
operand, so an instruction as syntax is always well formed: what can be ill formed is the command word the host writes,
and its three checks are here. -/

namespace Sys2Proof

/-- The three fields of a command word (R90). -/
structure CmdFields where
  op    : Byte
  round : BitVec 4
  rsvd  : BitVec 20
deriving DecidableEq, Repr

/-- RSVD must be 0 (R93). -/
def CmdFields.rsvdZero (f : CmdFields) : Bool := f.rsvd == 0

/-- The assigned OP values are 0x00..0x05 and 0x10..0x16 (R98). -/
def CmdFields.opAssigned (f : CmdFields) : Bool :=
  f.op.toNat ≤ 0x05 || (0x10 ≤ f.op.toNat && f.op.toNat ≤ 0x16)

/-- ROUND is 0..10 for ADD_ROUND_KEY and 0 for every other OP (R92). -/
def CmdFields.roundLegal (f : CmdFields) : Bool :=
  if f.op = 0x16 then f.round.toNat ≤ 10 else f.round == 0

/-- A command word is valid when its fields pass the three checks (R94). -/
def CmdFields.wellFormed (f : CmdFields) : Bool := f.rsvdZero && f.opAssigned && f.roundLegal

end Sys2Proof
end

