-- ==== Sys2Proof/Decode.lean ====
section
/-! DEFINITION. The decoder of command words, total on every 32-bit word and rejecting by name, and the encoder
(30_encoding.md R90 to R94, R98 to R100). -/

namespace Sys2Proof

/-- OP, bits 7:0 (R90). -/
def CmdFields.opOf (v : Word) : Byte := v.extractLsb' 0 8

/-- ROUND, bits 11:8 (R90). -/
def CmdFields.roundOf (v : Word) : BitVec 4 := v.extractLsb' 8 4

/-- RSVD, bits 31:12 (R90). -/
def CmdFields.rsvdOf (v : Word) : BitVec 20 := v.extractLsb' 12 20

/-- The fields of a command word (R90). -/
def CmdFields.ofWord (v : Word) : CmdFields :=
  { op := CmdFields.opOf v, round := CmdFields.roundOf v, rsvd := CmdFields.rsvdOf v }

/-- Why a word is `invalid` (R96 cause 1). All four set ERR_CMD; the names are for the reader. -/
inductive DecodeError where
  /-- RSVD is not 0 (R93). -/
  | reservedBits
  /-- OP is not assigned (R98). -/
  | opUnassigned
  /-- ROUND is not 0 on a command that takes none (R92). -/
  | roundNotZero
  /-- ROUND is 11..15 on ADD_ROUND_KEY (R92). -/
  | roundOutOfRange
deriving DecidableEq, Repr

/-- The commands without an operand, by OP (R91). -/
def plainCommand (op : Byte) : Option Instr :=
  match op.toNat with
  | 0x00 => some .nop
  | 0x01 => some .keyExpand
  | 0x02 => some .encrypt
  | 0x03 => some .decrypt
  | 0x04 => some .ctrGen
  | 0x05 => some .ctrXor
  | 0x10 => some .subBytes
  | 0x11 => some .invSubBytes
  | 0x12 => some .shiftRows
  | 0x13 => some .invShiftRows
  | 0x14 => some .mixColumns
  | 0x15 => some .invMixColumns
  | _ => none

/-- ADD_ROUND_KEY r for the legal values of r (R92). -/
def addRoundKeyCommand (r : Nat) : Option Instr :=
  match r with
  | 0 => some .addRoundKey0
  | 1 => some .addRoundKey1
  | 2 => some .addRoundKey2
  | 3 => some .addRoundKey3
  | 4 => some .addRoundKey4
  | 5 => some .addRoundKey5
  | 6 => some .addRoundKey6
  | 7 => some .addRoundKey7
  | 8 => some .addRoundKey8
  | 9 => some .addRoundKey9
  | 10 => some .addRoundKey10
  | _ => none

/-- `decode` (R94): the command a CMD word stands for, or why it is invalid. -/
def decode (v : Word) : Except DecodeError Instr :=
  if CmdFields.rsvdOf v ≠ 0 then .error .reservedBits
  else if CmdFields.opOf v = 0x16 then
    match addRoundKeyCommand (CmdFields.roundOf v).toNat with
    | some i => .ok i
    | none => .error .roundOutOfRange
  else
    match plainCommand (CmdFields.opOf v) with
    | some i => if CmdFields.roundOf v ≠ 0 then .error .roundNotZero else .ok i
    | none => .error .opUnassigned

/-- The OP value of a command (R91). -/
def Instr.op : Instr → Byte
  | .nop => 0x00
  | .keyExpand => 0x01
  | .encrypt => 0x02
  | .decrypt => 0x03
  | .ctrGen => 0x04
  | .ctrXor => 0x05
  | .subBytes => 0x10
  | .invSubBytes => 0x11
  | .shiftRows => 0x12
  | .invShiftRows => 0x13
  | .mixColumns => 0x14
  | .invMixColumns => 0x15
  | .addRoundKey0 => 0x16
  | .addRoundKey1 => 0x16
  | .addRoundKey2 => 0x16
  | .addRoundKey3 => 0x16
  | .addRoundKey4 => 0x16
  | .addRoundKey5 => 0x16
  | .addRoundKey6 => 0x16
  | .addRoundKey7 => 0x16
  | .addRoundKey8 => 0x16
  | .addRoundKey9 => 0x16
  | .addRoundKey10 => 0x16

/-- The ROUND value of a command: r for ADD_ROUND_KEY r, else 0 (R92). -/
def Instr.round : Instr → BitVec 4
  | .nop => 0
  | .keyExpand => 0
  | .encrypt => 0
  | .decrypt => 0
  | .ctrGen => 0
  | .ctrXor => 0
  | .subBytes => 0
  | .invSubBytes => 0
  | .shiftRows => 0
  | .invShiftRows => 0
  | .mixColumns => 0
  | .invMixColumns => 0
  | .addRoundKey0 => 0
  | .addRoundKey1 => 1
  | .addRoundKey2 => 2
  | .addRoundKey3 => 3
  | .addRoundKey4 => 4
  | .addRoundKey5 => 5
  | .addRoundKey6 => 6
  | .addRoundKey7 => 7
  | .addRoundKey8 => 8
  | .addRoundKey9 => 9
  | .addRoundKey10 => 10

/-- `encode(mnemonic [r]) = (r << 8) | OP` (R100). -/
def encode (i : Instr) : Word := (i.round.setWidth 32 <<< 8) ||| i.op.setWidth 32

/-- The constructor of ADD_ROUND_KEY r (R92, R156). -/
def Instr.addRoundKey (r : Fin 11) : Instr := (addRoundKeyCommand r.val).getD .nop

/-- The commands that need KEY_VALID (R91, R94 `needs_key`). -/
def Instr.needsKey : Instr → Bool
  | .nop => false
  | .keyExpand => false
  | .encrypt => true
  | .decrypt => true
  | .ctrGen => true
  | .ctrXor => true
  | .subBytes => false
  | .invSubBytes => false
  | .shiftRows => false
  | .invShiftRows => false
  | .mixColumns => false
  | .invMixColumns => false
  | .addRoundKey0 => true
  | .addRoundKey1 => true
  | .addRoundKey2 => true
  | .addRoundKey3 => true
  | .addRoundKey4 => true
  | .addRoundKey5 => true
  | .addRoundKey6 => true
  | .addRoundKey7 => true
  | .addRoundKey8 => true
  | .addRoundKey9 => true
  | .addRoundKey10 => true

/-- The instruction the decoder reads from a table row's bits: a command is one 32-bit CMD word (R90, R99), so a row of
at most 32 bits is that word with its upper bits 0, and there is no longer command. -/
def decodeTableWord (nbits w : Nat) : Option Instr :=
  if nbits ≤ 32 ∧ w < 2 ^ nbits then
    match decode (BitVec.ofNat 32 w) with
    | .ok i => some i
    | .error _ => none
  else none

end Sys2Proof
end

