-- ==== Sys2Proof/Config.lean ====
section
/-! DEFINITION. What one realisation of the AES1 engine fixes (00_scope.md R8), and the values the spec leaves
open. An opaque constant has no body a proof can see: what is proved holds whatever its value is. -/

namespace Sys2Proof

/-- `CTR_ORDER`, the byte order of the counter inside the counter block (R8, 44_ctr.md R211). -/
inductive CtrOrder where
  | be
  | le
deriving DecidableEq, Repr

/-- What the host does with a bus error response (`HOST_BUS_ERROR_ACTION`, 60_exceptions.md R262). -/
inductive HostReaction where
  | ignored
  | hostFault
deriving DecidableEq, Repr

/-- Build-time parameter `CTR_ORDER`: this hardware takes `BE` (R8). Log 10. -/
def Config.ctrOrder : CtrOrder := .be

/-- Host parameter `PAD_BYTE` (R8). Log 13. -/
def Config.padByte : Byte := 0x00

/-- `WINDOW_BYTES` (R8). -/
def Config.windowBytes : Nat := 0x200

/-- OPEN parameter `AES_BASE`, counted in windows: R8 makes the base a multiple of 0x200. Log 9. -/
opaque Config.aesBaseWindow : Nat

/-- OPEN parameter `AES_BASE`: the byte address of the register window (R8, R20). Log 9. -/
def Config.aesBase : Nat := Config.windowBytes * Config.aesBaseWindow

/-- `draw()`: the n-th value the spec leaves open, under no law (R12). Free value, log 6. -/
opaque Config.draw : Nat → Word

/-- OPEN parameter `LATENCY(op)`: finite, unbounded, it may differ per command (R8, 70_reset_and_hazards.md R303).
The n-th open value, for the operation code `op`, in host turns. Free value, log 7. -/
opaque Config.latency : Byte → Nat → Nat

/-- OPEN parameter `HOST_BUS_ERROR_ACTION`, a draw over its two values (R262). Free value, log 8. -/
opaque Config.hostBusErrorActionIsFault : Nat → Bool

end Sys2Proof
end

