-- ==== Sys2Proof/Machine/Bytes.lean ====
section
/-! DEFINITION. Byte order and views (00_scope.md R10, R11): packing of words, the four words of a block, the 4x4 state
view, the counter block's counter bytes. -/

namespace Sys2Proof.Machine

/-- `pack(x0, x1, x2, x3)`: x0 in bits 31:24, x3 in bits 7:0 (R11). -/
def pack (x0 x1 x2 x3 : Byte) : Word := x0 ++ x1 ++ x2 ++ x3

/-- Byte t of `unpack(w)`: byte 0 is bits 31:24, byte 3 is bits 7:0 (R11). -/
def unpack (w : Word) (t : Fin 4) : Byte := w.extractLsb' (8 * (3 - t.val)) 8

/-- Word j of a 16-byte value: `Wj = pack(b[4j], b[4j+1], b[4j+2], b[4j+3])` (R11). -/
def wordOf (b : Block) (j : Fin 4) : Word :=
  pack b[4 * j.val] b[4 * j.val + 1] b[4 * j.val + 2] b[4 * j.val + 3]

/-- A 16-byte value with its word j replaced: a write of one of four registers leaves the other three (R11, R61). -/
def setWord (b : Block) (j : Fin 4) (w : Word) : Block :=
  Vector.ofFn fun i => if i.val / 4 = j.val then unpack w ⟨i.val % 4, by omega⟩ else b[i]

/-- `BLK⁻¹` backwards: the 16-byte value whose four words are given (R11, R12). -/
def ofWords (w : Fin 4 → Word) : Block :=
  Vector.ofFn fun i => unpack (w ⟨i.val / 4, by omega⟩) ⟨i.val % 4, by omega⟩

/-- NONCE_Wj = pack(n[4j], .., n[4j+3]) (10_state.md R31). -/
def nonceWord (n : Nonce) (j : Fin 2) : Word :=
  pack n[4 * j.val] n[4 * j.val + 1] n[4 * j.val + 2] n[4 * j.val + 3]

/-- The nonce with its word j replaced (R31, R61). -/
def setNonceWord (n : Nonce) (j : Fin 2) (w : Word) : Nonce :=
  Vector.ofFn fun i => if i.val / 4 = j.val then unpack w ⟨i.val % 4, by omega⟩ else n[i]

/-- The state view: `s[r][c] = b[4*c + r]` (R10). -/
def stateAt (b : Block) (r c : Fin 4) : Byte := b[4 * c.val + r.val]

/-- The block whose state view is `s`: byte 4c + r is `s r c` (R10). -/
def ofState (s : Fin 4 → Fin 4 → Byte) : Block :=
  Vector.ofFn fun i => s ⟨i.val % 4, by omega⟩ ⟨i.val / 4, by omega⟩

/-- Bytewise exclusive-or of two blocks. -/
def xorBlock (a b : Block) : Block := Vector.ofFn fun i => a[i] ^^^ b[i]

/-- Byte i of the 8 counter bytes of a counter block (44_ctr.md R211): most significant first under BE, least
significant first under LE. -/
def counterByte (order : CtrOrder) (ctr : BitVec 64) (i : Nat) : Byte :=
  match order with
  | .be => ctr.extractLsb' (8 * (7 - i)) 8
  | .le => ctr.extractLsb' (8 * i) 8

/-- `CB(n, ctr)` (R211): the nonce in bytes 0..7, the counter in bytes 8..15. -/
def counterBlock (order : CtrOrder) (n : Nonce) (ctr : BitVec 64) : Block :=
  Vector.ofFn fun i => if h : i.val < 8 then n[i.val] else counterByte order ctr (i.val - 8)

end Sys2Proof.Machine
end

