-- ==== Sys2Proof/Machine/KeySchedule.lean ====
section
/-! DEFINITION. The key schedule expander as functions (42_key_schedule.md R170 to R175). -/

namespace Sys2Proof.Machine

/-- `RotWord(pack(a0, a1, a2, a3)) = pack(a1, a2, a3, a0)` (R171). -/
def rotWord (w : Word) : Word := w.rotateLeft 8

/-- `SubWord`: SBOX on each of the four bytes (R172). -/
def subWord (w : Word) : Word :=
  pack (sbox (unpack w 0)) (sbox (unpack w 1)) (sbox (unpack w 2)) (sbox (unpack w 3))

/-- `rc[j]`: rc[1] = 0x01 and rc[j] = xtime(rc[j-1]) (R173). The spec gives rc for j = 1..10 only; index 0 is unused. -/
def rc : Nat → Byte
  | 0 => 0x00
  | 1 => 0x01
  | j + 2 => xtime (rc (j + 1))

/-- `Rcon[j] = pack(rc[j], 0, 0, 0)` (R173). -/
def rcon (j : Nat) : Word := pack (rc j) 0x00 0x00 0x00

/-- `temp` of step i (R174), from `w[i-1]`. -/
def keyTemp (i : Nat) (prev : Word) : Word :=
  if i % 4 = 0 then subWord (rotWord prev) ^^^ rcon (i / 4) else prev

/-- Four words in a row of the schedule. -/
structure KeyWindow where
  w0 : Word
  w1 : Word
  w2 : Word
  w3 : Word
deriving DecidableEq, Repr

/-- The words `w[n], w[n+1], w[n+2], w[n+3]`: at n = 0 the key's own (R170), and each step moves on by one word with
`w[i] = w[i-4] xor temp` for i = n + 4 (R174). -/
def keyWindow (k : Block) : Nat → KeyWindow
  | 0 => ⟨wordOf k 0, wordOf k 1, wordOf k 2, wordOf k 3⟩
  | n + 1 =>
    let p := keyWindow k n
    ⟨p.w1, p.w2, p.w3, p.w0 ^^^ keyTemp (n + 4) p.w3⟩

/-- `KeyExpansion(K)`: the 44 words (R174). -/
def keyExpansion (k : Block) : Schedule := Vector.ofFn fun i => (keyWindow k i.val).w0

/-- `RK[r][4j + t] = unpack(w[4r + j])[t]` (R175). -/
def roundKey (rk : Schedule) (r : Fin 11) : Block := ofWords fun j => rk[4 * r.val + j.val]

end Sys2Proof.Machine
end

