-- ==== Sys2Proof/Machine/Rounds.lean ====
section
/-! DEFINITION. The round primitives as functions on a block (41_round_primitives.md R140 to R148). -/

namespace Sys2Proof.Machine

/-- `SubBytes(b)[i] = SBOX[b[i]]` (R141). -/
def subBytes (b : Block) : Block := Vector.ofFn fun i => sbox b[i]

/-- `InvSubBytes(b)[i] = INV_SBOX[b[i]]` (R142). -/
def invSubBytes (b : Block) : Block := Vector.ofFn fun i => invSbox b[i]

/-- `s'[r][c] = s[r][(c + r) mod 4]` (R143); addition in `Fin 4` is modulo 4. -/
def shiftRows (b : Block) : Block := ofState fun r c => stateAt b r (c + r)

/-- `s'[r][c] = s[r][(c - r) mod 4]` (R144). -/
def invShiftRows (b : Block) : Block := ofState fun r c => stateAt b r (c - r)

/-- Row r of one column of MixColumns (R146). -/
def mixColumnRow (a0 a1 a2 a3 : Byte) (r : Fin 4) : Byte :=
  match r with
  | 0 => mul2 a0 ^^^ mul3 a1 ^^^ a2 ^^^ a3
  | 1 => a0 ^^^ mul2 a1 ^^^ mul3 a2 ^^^ a3
  | 2 => a0 ^^^ a1 ^^^ mul2 a2 ^^^ mul3 a3
  | 3 => mul3 a0 ^^^ a1 ^^^ a2 ^^^ mul2 a3

/-- Row r of one column of InvMixColumns (R147). -/
def invMixColumnRow (a0 a1 a2 a3 : Byte) (r : Fin 4) : Byte :=
  match r with
  | 0 => mul14 a0 ^^^ mul11 a1 ^^^ mul13 a2 ^^^ mul9 a3
  | 1 => mul9 a0 ^^^ mul14 a1 ^^^ mul11 a2 ^^^ mul13 a3
  | 2 => mul13 a0 ^^^ mul9 a1 ^^^ mul14 a2 ^^^ mul11 a3
  | 3 => mul11 a0 ^^^ mul13 a1 ^^^ mul9 a2 ^^^ mul14 a3

/-- MixColumns, column by column (R146). -/
def mixColumns (b : Block) : Block :=
  ofState fun r c => mixColumnRow (stateAt b 0 c) (stateAt b 1 c) (stateAt b 2 c) (stateAt b 3 c) r

/-- InvMixColumns, column by column (R147). -/
def invMixColumns (b : Block) : Block :=
  ofState fun r c => invMixColumnRow (stateAt b 0 c) (stateAt b 1 c) (stateAt b 2 c) (stateAt b 3 c) r

/-- `AddRoundKey(b, k)[i] = b[i] xor k[i]` (R148). -/
def addRoundKey (b k : Block) : Block := xorBlock b k

end Sys2Proof.Machine
end

