-- ==== Sys2Proof/Machine/Cipher.lean ====
section
/-! DEFINITION. The block cipher as functions (43_block_cipher.md R190, R191). -/

namespace Sys2Proof.Machine

/-- A full round of Cipher, with round key r (R190). -/
def cipherRound (rk : Schedule) (s : Block) (r : Fin 11) : Block :=
  addRoundKey (mixColumns (shiftRows (subBytes s))) (roundKey rk r)

/-- `Cipher(p, RK)` (R190): AddRoundKey 0, nine full rounds r = 1..9, and a last round without MixColumns. -/
def cipher (p : Block) (rk : Schedule) : Block :=
  let s := [1, 2, 3, 4, 5, 6, 7, 8, 9].foldl (cipherRound rk) (addRoundKey p (roundKey rk 0))
  addRoundKey (shiftRows (subBytes s)) (roundKey rk 10)

/-- A full round of InvCipher, with round key r (R191). -/
def invCipherRound (rk : Schedule) (s : Block) (r : Fin 11) : Block :=
  invMixColumns (addRoundKey (invSubBytes (invShiftRows s)) (roundKey rk r))

/-- `InvCipher(c, RK)` (R191): round keys in descending order, InvMixColumns in all but the first and last steps. -/
def invCipher (c : Block) (rk : Schedule) : Block :=
  let s := [9, 8, 7, 6, 5, 4, 3, 2, 1].foldl (invCipherRound rk) (addRoundKey c (roundKey rk 10))
  addRoundKey (invSubBytes (invShiftRows s)) (roundKey rk 0)

end Sys2Proof.Machine
end

