-- ==== Sys2Proof/Machine/State.lean ====
section
/-! DEFINITION. The state of the AES1 engine and of its environment, as plain data (10_state.md R45, R47), and the
reset state. -/

namespace Sys2Proof.Machine

/-- A register of the window, by name (10_state.md R20). -/
inductive Reg where
  | id
  | ctrl
  | status
  | cmd
  | key (j : Fin 4)
  | state (j : Fin 4)
  | ks (j : Fin 4)
  | nonce (j : Fin 2)
  | ctrHi
  | ctrLo
  | lutAddr
  | lutData
  | rk (i : Fin 44)
deriving DecidableEq, Repr

/-- How a bus access completes: its read data, and whether with an error response (60_exceptions.md R262). -/
structure BusResp where
  data  : Word
  error : Bool
deriving DecidableEq, Repr

/-- A line of a host program (30_encoding.md R101). Names and labels are numbers. Accesses carry their size in bytes,
so that a program can make the accesses R62 forbids; offsets are from AES_BASE. `rst` is the environment's line: the
reset input is asserted here (70_reset_and_hazards.md R290, program P6 of 95_test_vectors.md). Log 11, log 12. -/
inductive HostOp where
  | rd (size off name : Nat)
  | wr (size off : Nat) (v : Word)
  | poll (off : Nat) (mask val : Word)
  | label (l : Nat)
  | jnz (name l : Nat)
  | rst
deriving DecidableEq, Repr

/-- The Host agent (20_memory.md R70): its program, its place in it, the values read by name (rising by name), the last
bus response, and whether a bus error stopped it (R262). Log 8, log 12, log 17. -/
structure HostAgent where
  prog    : List HostOp
  pc      : Nat
  names   : List (Nat × Word)
  resp    : Option BusResp
  stopped : Bool
deriving DecidableEq, Repr

/-- The open parameters' next values: those supplied from outside, and how many free values were drawn (R12, R303,
R262). Log 6, log 7, log 8. -/
structure Supply where
  latencies : List Nat
  reactions : List HostReaction
  draws     : Nat
deriving DecidableEq, Repr

/-- The whole state: the record of 10_state.md R47, and after it the reset input, the interleaving and the
environment. -/
structure State where
  irqEn    : Bool
  busy     : Bool
  done     : Bool
  keyValid : Bool
  errBusy  : Bool
  errCmd   : Bool
  errNokey : Bool
  ctrWrap  : Bool
  errBus   : Bool
  key      : Block
  state    : Block
  ks       : Block
  nonce    : Nonce
  ctr      : BitVec 64
  lutTable : BitVec 3
  lutIndex : BitVec 8
  rk       : Schedule
  pend     : Option Instr
  rst      : Bool
  latency  : Nat
  supply   : Supply
  host     : HostAgent
deriving DecidableEq, Repr

/-- Why the machine stops. The engine itself never faults (60_exceptions.md R260); these stop the environment. -/
inductive Fault where
  /-- Raised by the host's turn for an access at an offset of 0x200 or more: outside the window, which the engine does
  not decode (20_memory.md R64, U6). Safe: the model stops where the platform goes on. -/
  | outsideWindow (off : Nat)
  /-- Raised by the host's turn for a `jnz` to a label that no line of the program holds (30_encoding.md R101). Safe. -/
  | unknownLabel (l : Nat)
  /-- Raised by the host's turn for a `jnz` on a name that no `rd` has read (R101). Safe. -/
  | unreadName (name : Nat)
deriving DecidableEq, Repr

/-- Why an instruction has no meaning. -/
inductive Refusal where
  /-- Raised by an arm of `exec` whose instruction is not modelled; no arm is left so. Safe. -/
  | notModelled (mnemonic : String)
deriving DecidableEq, Repr

/-- The state right after reset (10_state.md R45), with the environment given. The schedule RAM is unspecified: 44 free
values (R40, log 5). -/
def State.atReset (host : HostAgent) (supply : Supply) : State where
  irqEn    := false
  busy     := false
  done     := false
  keyValid := false
  errBusy  := false
  errCmd   := false
  errNokey := false
  ctrWrap  := false
  errBus   := false
  key      := Vector.replicate 16 0
  state    := Vector.replicate 16 0
  ks       := Vector.replicate 16 0
  nonce    := Vector.replicate 8 0
  ctr      := 1
  lutTable := 0
  lutIndex := 0
  rk       := Vector.ofFn fun i => Config.draw (supply.draws + i.val)
  pend     := none
  rst      := false
  latency  := 0
  supply   := { supply with draws := supply.draws + 44 }
  host     := host

/-- A host with the empty program. -/
def HostAgent.idle : HostAgent :=
  { prog := [], pc := 0, names := [], resp := none, stopped := false }

/-- Nothing supplied, nothing drawn. -/
def Supply.start : Supply := { latencies := [], reactions := [], draws := 0 }

/-- The machine right after reset (R45): idle, and a host that makes no access. -/
def State.reset : State := State.atReset HostAgent.idle Supply.start

end Sys2Proof.Machine
end

