-- ==== Sys2Proof/Machine/Flags.lean ====
section
/-! DEFINITION. The STATUS flags (10_state.md R24, R25, R36), the interrupt wire (R43) and the counter's wrap
(44_ctr.md R212). -/

namespace Sys2Proof.Machine

/-- STATUS as read: BUSY 0, DONE 1, KEY_VALID 2, ERR_BUSY 3, ERR_CMD 4, ERR_NOKEY 5, CTR_WRAP 6, ERR_BUS 7, and bits
31:8 read 0 (R24). -/
def statusWord (s : State) : Word :=
  (0 : BitVec 24) ++ BitVec.ofBool s.errBus ++ BitVec.ofBool s.ctrWrap ++ BitVec.ofBool s.errNokey ++
    BitVec.ofBool s.errCmd ++ BitVec.ofBool s.errBusy ++ BitVec.ofBool s.keyValid ++ BitVec.ofBool s.done ++
    BitVec.ofBool s.busy

/-- A write to STATUS clears each W1C flag whose bit is written 1; BUSY, KEY_VALID and the reserved bits are read-only
(R25). This is the host's return from an error (60_exceptions.md R273). -/
def clearFlags (v : Word) (s : State) : State :=
  { s with
    done     := s.done && !v.getLsbD 1
    errBusy  := s.errBusy && !v.getLsbD 3
    errCmd   := s.errCmd && !v.getLsbD 4
    errNokey := s.errNokey && !v.getLsbD 5
    ctrWrap  := s.ctrWrap && !v.getLsbD 6
    errBus   := s.errBus && !v.getLsbD 7 }

/-- The interrupt wire: `irq = CTRL.IRQ_EN and STATUS.DONE` at every instant (R43, 60_exceptions.md R268). -/
def irq (s : State) : Bool := s.irqEn && s.done

/-- The counter is at `2^64 - 1`, so that a CTR command wraps it (44_ctr.md R212). -/
def ctrWraps (c : BitVec 64) : Bool := c == BitVec.allOnes 64

end Sys2Proof.Machine
end

