-- ==== Sys2Proof/Machine/Operands.lean ====
section
/-! DEFINITION. The operands of a bus access: which register an offset names (10_state.md R20, R21), how each kind of
register behaves (20_memory.md R60, R61, R65, R66), and the word each register reads as. -/

namespace Sys2Proof.Machine

/-- The register at a window offset that is a multiple of 4; none at a reserved offset (R20, R21). -/
def Reg.ofOffset (off : Nat) : Option Reg :=
  if off = 0x000 then some .id
  else if off = 0x004 then some .ctrl
  else if off = 0x008 then some .status
  else if off = 0x00C then some .cmd
  else if h : off < 0x020 then some (.key ⟨(off - 0x010) / 4, by omega⟩)
  else if h : off < 0x030 then some (.state ⟨(off - 0x020) / 4, by omega⟩)
  else if h : off < 0x040 then some (.ks ⟨(off - 0x030) / 4, by omega⟩)
  else if h : off < 0x048 then some (.nonce ⟨(off - 0x040) / 4, by omega⟩)
  else if off = 0x048 then some .ctrHi
  else if off = 0x04C then some .ctrLo
  else if off = 0x050 then some .lutAddr
  else if off = 0x054 then some .lutData
  else if off < 0x100 then none
  else if h : off < 0x1B0 then some (.rk ⟨(off - 0x100) / 4, by omega⟩)
  else none

/-- The offset of a register (R20). -/
def Reg.offset : Reg → Nat
  | .id => 0x000
  | .ctrl => 0x004
  | .status => 0x008
  | .cmd => 0x00C
  | .key j => 0x010 + 4 * j.val
  | .state j => 0x020 + 4 * j.val
  | .ks j => 0x030 + 4 * j.val
  | .nonce j => 0x040 + 4 * j.val
  | .ctrHi => 0x048
  | .ctrLo => 0x04C
  | .lutAddr => 0x050
  | .lutData => 0x054
  | .rk i => 0x100 + 4 * i.val

/-- The register an access reaches: none when its width is not 32 bits, its offset is misaligned or reserved (R60 to
R64), which is a bus error. -/
def busTarget (size off : Nat) : Option Reg :=
  if size ≠ 4 then none
  else if off % 4 ≠ 0 then none
  else Reg.ofOffset off

/-- The window offset of an absolute byte address; none where the engine does not decode it (R20, R64, R76). Log 9. -/
def windowOffset (addr : Nat) : Option Nat :=
  if Config.aesBase ≤ addr ∧ addr < Config.aesBase + Config.windowBytes then some (addr - Config.aesBase) else none

/-- The write-only registers: CMD and KEY_W0..3 (R65). -/
def Reg.writeOnly : Reg → Bool
  | .cmd => true
  | .key _ => true
  | _ => false

/-- The read-only registers: ID, KS_W*, LUT_DATA, RK_W* (R66). -/
def Reg.readOnly : Reg → Bool
  | .id => true
  | .ks _ => true
  | .lutData => true
  | .rk _ => true
  | _ => false

/-- The registers whose read while BUSY = 1 is `draw()`: STATE_W*, KS_W*, CTR_HI, CTR_LO, RK_W* (R60,
70_reset_and_hazards.md R298). -/
def Reg.readHazard : Reg → Bool
  | .state _ => true
  | .ks _ => true
  | .ctrHi => true
  | .ctrLo => true
  | .rk _ => true
  | _ => false

/-- The registers a write to which is dropped while BUSY = 1: KEY_W*, STATE_W*, NONCE_W*, CTR_HI, CTR_LO (R61,
70_reset_and_hazards.md R297) and CMD (R299). -/
def Reg.writeHazard : Reg → Bool
  | .key _ => true
  | .state _ => true
  | .nonce _ => true
  | .ctrHi => true
  | .ctrLo => true
  | .cmd => true
  | _ => false

/-- ID: the ASCII bytes "AES1" (10_state.md R22). -/
def idWord : Word := 0x41455331

/-- CTRL as read: IRQ_EN in bit 0, the rest 0 (10_state.md R23). -/
def ctrlWord (s : State) : Word := (0 : BitVec 31) ++ BitVec.ofBool s.irqEn

/-- CTR_HI, bits 63:32 of the counter (10_state.md R32). -/
def ctrHiWord (s : State) : Word := s.ctr.extractLsb' 32 32

/-- CTR_LO, bits 31:0 of the counter (R32). -/
def ctrLoWord (s : State) : Word := s.ctr.extractLsb' 0 32

/-- The counter with its high half written (R32). -/
def setCtrHi (c : BitVec 64) (v : Word) : BitVec 64 := v ++ c.extractLsb' 0 32

/-- The counter with its low half written; no carry passes between the halves (R32). -/
def setCtrLo (c : BitVec 64) (v : Word) : BitVec 64 := c.extractLsb' 32 32 ++ v

/-- LUT_ADDR as read: INDEX in bits 7:0, TABLE in bits 10:8, the rest 0 (10_state.md R37). -/
def lutAddrWord (s : State) : Word := (0 : BitVec 21) ++ s.lutTable ++ s.lutIndex

/-- LUT_DATA: the table entry LUT_ADDR selects, zero-extended (10_state.md R38, 40_gf_tables.md R127). -/
def lutDataWord (s : State) : Word := (lutSelect s.lutTable s.lutIndex).setWidth 32

/-- RK_Wi: word i of the schedule RAM when KEY_VALID = 1, else 0 (10_state.md R39). -/
def rkWord (s : State) (i : Fin 44) : Word := if s.keyValid then s.rk[i] else 0

/-- What a register reads as, as 10_state.md defines it; the write-only ones read 0 (R60, R65). -/
def readReg (s : State) : Reg → Word
  | .id => idWord
  | .ctrl => ctrlWord s
  | .status => statusWord s
  | .cmd => 0
  | .key _ => 0
  | .state j => wordOf s.state j
  | .ks j => wordOf s.ks j
  | .nonce j => nonceWord s.nonce j
  | .ctrHi => ctrHiWord s
  | .ctrLo => ctrLoWord s
  | .lutAddr => lutAddrWord s
  | .lutData => lutDataWord s
  | .rk i => rkWord s i

end Sys2Proof.Machine
end

