-- ==== Sys2Proof/Machine/Ops.lean ====
section
/-! DEFINITION. The shared operations on the state: completion, acceptance and rejection of commands, bus errors, free
values, reset. The engine takes no traps (60_exceptions.md R260): its errors are `rejectInvalid`, `rejectNoKey`,
`setErrBusy` and `setErrBus`, and the host's return from one is `clearFlags` (R273). -/

namespace Sys2Proof.Machine

/-- The end of every command: BUSY <- 0, DONE <- 1, PEND <- none (10_state.md R33). -/
def complete (s : State) : State := { s with busy := false, done := true, pend := none }

/-- The rejection of an invalid word: ERR_CMD and DONE, nothing else (30_encoding.md R95, 60_exceptions.md R263). -/
def rejectInvalid (s : State) : State := { s with errCmd := true, done := true }

/-- The rejection of a command that needs the key: ERR_NOKEY and DONE, nothing else (R95, 60_exceptions.md R264). -/
def rejectNoKey (s : State) : State := { s with errNokey := true, done := true }

/-- A write dropped because BUSY = 1: ERR_BUSY, nothing else (60_exceptions.md R265). -/
def setErrBusy (s : State) : State := { s with errBusy := true }

/-- A bus error's one effect on the engine: ERR_BUS (60_exceptions.md R262). -/
def setErrBus (s : State) : State := { s with errBus := true }

/-- The error response of the bus: read data 0 (R262). -/
def errorResp : BusResp := { data := 0, error := true }

/-- A normal response. -/
def okResp (data : Word) : BusResp := { data := data, error := false }

/-- The effect of a command that needs KEY_VALID, at its completion. PEND never holds such a command while KEY_VALID = 0
(30_encoding.md R96); in such a state the engine does not compute with the schedule RAM but ends the command with
ERR_NOKEY (93_implementation_defined.md I3). Log 3. -/
def completeWithKey (f : State → State) (s : State) : State :=
  if s.keyValid then complete (f s) else complete (rejectNoKey s)

/-- The block commands' effect: STATE <- F(STATE) (41_round_primitives.md section 2). -/
def mapState (f : Block → Block) (s : State) : State := { s with state := f s.state }

/-- The next `draw()` and the state after it (00_scope.md R12). Log 6. -/
def drawWord (s : State) : Word × State :=
  (Config.draw s.supply.draws, { s with supply := { s.supply with draws := s.supply.draws + 1 } })

/-- The next LATENCY for operation code `op`: the next one supplied from outside, else a free value
(70_reset_and_hazards.md R303). Log 7. -/
def nextLatency (op : Byte) (p : Supply) : Nat × Supply :=
  match p.latencies with
  | k :: ks => (k, { p with latencies := ks })
  | [] => (Config.latency op p.draws, { p with draws := p.draws + 1 })

/-- The next HOST_BUS_ERROR_ACTION: the next one supplied from outside, else a free value (60_exceptions.md R262).
Log 8. -/
def nextReaction (p : Supply) : HostReaction × Supply :=
  match p.reactions with
  | r :: rs => (r, { p with reactions := rs })
  | [] => (if Config.hostBusErrorActionIsFault p.draws then .hostFault else .ignored, { p with draws := p.draws + 1 })

/-- Acceptance: PEND <- i, BUSY <- 1, DONE <- 0 (30_encoding.md R95), and LATENCY is taken (R303). -/
def accept (i : Instr) (s : State) : State :=
  { s with
    pend    := some i
    busy    := true
    done    := false
    latency := (nextLatency i.op s.supply).1
    supply  := (nextLatency i.op s.supply).2 }

/-- A write to CMD that passed the bus checks (30_encoding.md R95, R96): busy, then decode, then key, then acceptance. -/
def writeCmd (v : Word) (s : State) : State :=
  if s.busy then setErrBusy s
  else
    match decode v with
    | .error _ => rejectInvalid s
    | .ok i => if i.needsKey && !s.keyValid then rejectNoKey s else accept i s

/-- The command the engine completes at this step: the one in PEND, when BUSY = 1 and its LATENCY has passed
(10_state.md R33, 20_memory.md R70). Log 1, log 16. -/
def engineCommand (s : State) : Option Instr :=
  if s.busy && s.latency == 0 then s.pend else none

/-- A turn of the host passes: one less before the pending command's completion (70_reset_and_hazards.md R303, R304).
Log 1. -/
def passTurn (s : State) : State := { s with latency := s.latency - 1 }

/-- The reset step: every piece of engine state takes its reset value (70_reset_and_hazards.md R290, R291); the host's
program stays where it is. Log 11. -/
def applyReset (s : State) : State := State.atReset s.host s.supply

end Sys2Proof.Machine
end

