-- ==== Sys2Proof/Machine/CipherCommands.lean ====
section
/-! DEFINITION. The meanings of NOP, KEY_EXPAND, ENCRYPT and DECRYPT at their completion (43_block_cipher.md R192 to
R194, 42_key_schedule.md R176, 10_state.md R33). -/

namespace Sys2Proof.Machine

open Host (Outcome)

/-- NOP: nothing but the completion (R194). -/
def execNop (s : State) : Outcome State Fault Refusal := .next (complete s)

/-- KEY_EXPAND: all 44 words of the schedule RAM from KEY_W0..3, and KEY_VALID <- 1 (R176). -/
def execKeyExpand (s : State) : Outcome State Fault Refusal :=
  .next (complete { s with rk := keyExpansion s.key, keyValid := true })

/-- ENCRYPT: STATE <- Cipher(STATE, RK) (R192). -/
def execEncrypt (s : State) : Outcome State Fault Refusal :=
  .next (completeWithKey (fun t => mapState (fun b => cipher b t.rk) t) s)

/-- DECRYPT: STATE <- InvCipher(STATE, RK) (R193). -/
def execDecrypt (s : State) : Outcome State Fault Refusal :=
  .next (completeWithKey (fun t => mapState (fun b => invCipher b t.rk) t) s)

end Sys2Proof.Machine
end

