-- ==== Sys2Proof/Machine/CtrCommands.lean ====
section
/-! DEFINITION. The meanings of CTR_GEN and CTR_XOR at their completion (44_ctr.md R211 to R214, 10_state.md R33). -/

namespace Sys2Proof.Machine

open Host (Outcome)

/-- The keystream block for the state's NONCE and CTR (R210, R211, R213). -/
def keystream (s : State) : Block := cipher (counterBlock Config.ctrOrder s.nonce s.ctr) s.rk

/-- KS <- the keystream block (R213, R214). -/
def loadKeystream (s : State) : State := { s with ks := keystream s }

/-- CTR <- CTR + 1 mod 2^64, and CTR_WRAP when it was 2^64 - 1; no carry into NONCE (R212). -/
def incrementCtr (s : State) : State := { s with ctr := s.ctr + 1, ctrWrap := s.ctrWrap || ctrWraps s.ctr }

/-- STATE <- STATE xor KS (R214). -/
def xorKeystream (s : State) : State := { s with state := addRoundKey s.state s.ks }

/-- CTR_GEN (R213). -/
def execCtrGen (s : State) : Outcome State Fault Refusal :=
  .next (completeWithKey (fun t => incrementCtr (loadKeystream t)) s)

/-- CTR_XOR (R214). -/
def execCtrXor (s : State) : Outcome State Fault Refusal :=
  .next (completeWithKey (fun t => incrementCtr (xorKeystream (loadKeystream t))) s)

end Sys2Proof.Machine
end

