-- ==== Sys2Proof/Machine/RoundCommands.lean ====
section
/-! DEFINITION. The meanings of the round-primitive commands at their completion (41_round_primitives.md R150 to R156,
10_state.md R33). -/

namespace Sys2Proof.Machine

open Host (Outcome)

/-- SUB_BYTES (R150). -/
def execSubBytes (s : State) : Outcome State Fault Refusal := .next (complete (mapState subBytes s))

/-- INV_SUB_BYTES (R151). -/
def execInvSubBytes (s : State) : Outcome State Fault Refusal := .next (complete (mapState invSubBytes s))

/-- SHIFT_ROWS (R152). -/
def execShiftRows (s : State) : Outcome State Fault Refusal := .next (complete (mapState shiftRows s))

/-- INV_SHIFT_ROWS (R153). -/
def execInvShiftRows (s : State) : Outcome State Fault Refusal := .next (complete (mapState invShiftRows s))

/-- MIX_COLUMNS (R154). -/
def execMixColumns (s : State) : Outcome State Fault Refusal := .next (complete (mapState mixColumns s))

/-- INV_MIX_COLUMNS (R155). -/
def execInvMixColumns (s : State) : Outcome State Fault Refusal := .next (complete (mapState invMixColumns s))

/-- ADD_ROUND_KEY r: STATE <- AddRoundKey(STATE, RK[r]) (R156). -/
def addRoundKeyStep (r : Fin 11) (s : State) : State :=
  completeWithKey (fun t => mapState (fun b => addRoundKey b (roundKey t.rk r)) t) s

/-- ADD_ROUND_KEY 0 (R156). -/
def execAddRoundKey0 (s : State) : Outcome State Fault Refusal := .next (addRoundKeyStep 0 s)

/-- ADD_ROUND_KEY 1 (R156). -/
def execAddRoundKey1 (s : State) : Outcome State Fault Refusal := .next (addRoundKeyStep 1 s)

/-- ADD_ROUND_KEY 2 (R156). -/
def execAddRoundKey2 (s : State) : Outcome State Fault Refusal := .next (addRoundKeyStep 2 s)

/-- ADD_ROUND_KEY 3 (R156). -/
def execAddRoundKey3 (s : State) : Outcome State Fault Refusal := .next (addRoundKeyStep 3 s)

/-- ADD_ROUND_KEY 4 (R156). -/
def execAddRoundKey4 (s : State) : Outcome State Fault Refusal := .next (addRoundKeyStep 4 s)

/-- ADD_ROUND_KEY 5 (R156). -/
def execAddRoundKey5 (s : State) : Outcome State Fault Refusal := .next (addRoundKeyStep 5 s)

/-- ADD_ROUND_KEY 6 (R156). -/
def execAddRoundKey6 (s : State) : Outcome State Fault Refusal := .next (addRoundKeyStep 6 s)

/-- ADD_ROUND_KEY 7 (R156). -/
def execAddRoundKey7 (s : State) : Outcome State Fault Refusal := .next (addRoundKeyStep 7 s)

/-- ADD_ROUND_KEY 8 (R156). -/
def execAddRoundKey8 (s : State) : Outcome State Fault Refusal := .next (addRoundKeyStep 8 s)

/-- ADD_ROUND_KEY 9 (R156). -/
def execAddRoundKey9 (s : State) : Outcome State Fault Refusal := .next (addRoundKeyStep 9 s)

/-- ADD_ROUND_KEY 10 (R156). -/
def execAddRoundKey10 (s : State) : Outcome State Fault Refusal := .next (addRoundKeyStep 10 s)

end Sys2Proof.Machine
end

