-- ==== Sys2Proof/Machine/Dispatch.lean ====
section
/-! DEFINITION. The meaning of every command at its completion: the engine's step (10_state.md R33), one arm each. -/

namespace Sys2Proof.Machine

open Host (Outcome)

/-- `execute(PEND)` and the completion, of R33's `engine_step`. Log 2. -/
def exec (i : Instr) (s : State) : Host.Outcome State Fault Refusal :=
  match i with
  | .nop => Sys2Proof.Machine.execNop s
  | .keyExpand => Sys2Proof.Machine.execKeyExpand s
  | .encrypt => Sys2Proof.Machine.execEncrypt s
  | .decrypt => Sys2Proof.Machine.execDecrypt s
  | .ctrGen => Sys2Proof.Machine.execCtrGen s
  | .ctrXor => Sys2Proof.Machine.execCtrXor s
  | .subBytes => Sys2Proof.Machine.execSubBytes s
  | .invSubBytes => Sys2Proof.Machine.execInvSubBytes s
  | .shiftRows => Sys2Proof.Machine.execShiftRows s
  | .invShiftRows => Sys2Proof.Machine.execInvShiftRows s
  | .mixColumns => Sys2Proof.Machine.execMixColumns s
  | .invMixColumns => Sys2Proof.Machine.execInvMixColumns s
  | .addRoundKey0 => Sys2Proof.Machine.execAddRoundKey0 s
  | .addRoundKey1 => Sys2Proof.Machine.execAddRoundKey1 s
  | .addRoundKey2 => Sys2Proof.Machine.execAddRoundKey2 s
  | .addRoundKey3 => Sys2Proof.Machine.execAddRoundKey3 s
  | .addRoundKey4 => Sys2Proof.Machine.execAddRoundKey4 s
  | .addRoundKey5 => Sys2Proof.Machine.execAddRoundKey5 s
  | .addRoundKey6 => Sys2Proof.Machine.execAddRoundKey6 s
  | .addRoundKey7 => Sys2Proof.Machine.execAddRoundKey7 s
  | .addRoundKey8 => Sys2Proof.Machine.execAddRoundKey8 s
  | .addRoundKey9 => Sys2Proof.Machine.execAddRoundKey9 s
  | .addRoundKey10 => Sys2Proof.Machine.execAddRoundKey10 s

end Sys2Proof.Machine
end

