-- ==== Sys2Proof/Machine/Bus.lean ====
section
/-! DEFINITION. The host's accesses: BusRead and BusWrite (20_memory.md R60, R61). -/

namespace Sys2Proof.Machine

/-- `BusRead(off, size)` (R60): the response and the state after it. Only a bus error changes a register (R69); a read
under the hazard of R298 takes a free value. -/
def busRead (size off : Nat) (s : State) : BusResp × State :=
  match busTarget size off with
  | none => (errorResp, setErrBus s)
  | some r =>
    if s.busy && r.readHazard then (okResp (drawWord s).1, (drawWord s).2)
    else (okResp (readReg s r), s)

/-- The effect of a write to a register that passed the bus checks and is not dropped (R61): read-only registers ignore
it (R66), reserved bits are ignored (R23, R37), KEY_Wj clears KEY_VALID (10_state.md R28). -/
def writeReg (v : Word) (s : State) : Reg → State
  | .id => s
  | .ctrl => { s with irqEn := v.getLsbD 0 }
  | .status => clearFlags v s
  | .cmd => writeCmd v s
  | .key j => { s with key := setWord s.key j v, keyValid := false }
  | .state j => { s with state := setWord s.state j v }
  | .ks _ => s
  | .nonce j => { s with nonce := setNonceWord s.nonce j v }
  | .ctrHi => { s with ctr := setCtrHi s.ctr v }
  | .ctrLo => { s with ctr := setCtrLo s.ctr v }
  | .lutAddr => { s with lutIndex := v.extractLsb' 0 8, lutTable := v.extractLsb' 8 3 }
  | .lutData => s
  | .rk _ => s

/-- `BusWrite(off, size, v)` (R61): bus checks, then the busy check (R269), then the write. -/
def busWrite (size off : Nat) (v : Word) (s : State) : BusResp × State :=
  match busTarget size off with
  | none => (errorResp, setErrBus s)
  | some r =>
    if s.busy && r.writeHazard then (okResp 0, setErrBusy s)
    else (okResp 0, writeReg v s r)

end Sys2Proof.Machine
end

