-- ==== Sys2Proof/Machine/HostTurn.lean ====
section
/-! DEFINITION. The Host agent's turn: one line of its program (20_memory.md R70, R71; 30_encoding.md R101). -/

namespace Sys2Proof.Machine

open Host (Outcome)

/-- The value a name holds, if a `rd` line has read it. -/
def lookupName (name : Nat) : List (Nat × Word) → Option Word
  | [] => none
  | (n, v) :: rest => if n = name then some v else lookupName name rest

/-- The names with `name <- v`, kept rising by name. -/
def setName (name : Nat) (v : Word) : List (Nat × Word) → List (Nat × Word)
  | [] => [(name, v)]
  | (n, w) :: rest =>
    if name < n then (name, v) :: (n, w) :: rest
    else if name = n then (name, v) :: rest
    else (n, w) :: setName name v rest

/-- The place of the line `label: l`, counted from `at`. -/
def findLabel (l : Nat) (place : Nat) : List HostOp → Option Nat
  | [] => none
  | op :: rest => if op = .label l then some place else findLabel l (place + 1) rest

/-- The program moves on to the next line. -/
def nextLine (s : State) : State := { s with host := { s.host with pc := s.host.pc + 1 } }

/-- The host receives a bus response. On an error response it does what HOST_BUS_ERROR_ACTION says: nothing, or a host
fault, after which it makes no further access (60_exceptions.md R262). Log 8. -/
def receive (r : BusResp) (s : State) : State :=
  if r.error then
    { s with
      supply := (nextReaction s.supply).2
      host   := { s.host with resp := some r, stopped := decide ((nextReaction s.supply).1 = .hostFault) } }
  else { s with host := { s.host with resp := some r } }

/-- The host keeps the value read under the line's name (R101). -/
def keepName (name : Nat) (v : Word) (s : State) : State :=
  { s with host := { s.host with names := setName name v s.host.names } }

/-- One line of the host's program (R101). R101 does not say on which values `jnz` jumps: that it jumps when the value is
not 0 is the model's choice, log 12. -/
def hostLine (op : HostOp) (s : State) : Outcome State Fault Refusal :=
  match op with
  | .rd size off name =>
    if Config.windowBytes ≤ off then .fault (.outsideWindow off)
    else .next (nextLine (keepName name (busRead size off s).1.data (receive (busRead size off s).1 (busRead size off s).2)))
  | .wr size off v =>
    if Config.windowBytes ≤ off then .fault (.outsideWindow off)
    else .next (nextLine (receive (busWrite size off v s).1 (busWrite size off v s).2))
  | .poll off mask val =>
    if Config.windowBytes ≤ off then .fault (.outsideWindow off)
    else if (busRead 4 off s).1.data &&& mask = val then
      .next (nextLine (receive (busRead 4 off s).1 (busRead 4 off s).2))
    else .next (receive (busRead 4 off s).1 (busRead 4 off s).2)
  | .label _ => .next (nextLine s)
  | .jnz name l =>
    match lookupName name s.host.names with
    | none => .fault (.unreadName name)
    | some v =>
      if v = 0 then .next (nextLine s)
      else
        match findLabel l 0 s.host.prog with
        | none => .fault (.unknownLabel l)
        | some place => .next { s with host := { s.host with pc := place } }
  | .rst => .next { nextLine s with rst := true }

/-- The line the host runs at its turn; none when a host fault stopped it or its program has ended. That a host fault
also keeps the environment's `rst` line from running, so that no run asserts rst after it, is the model's choice,
log 11. -/
def hostNext (s : State) : Option HostOp := if s.host.stopped then none else s.host.prog[s.host.pc]?

/-- The host's turn: one line of its program, or no access at all when there is none (R70). Log 12, log 14. -/
def hostTurn (s : State) : Outcome State Fault Refusal :=
  match hostNext s with
  | none => .next (passTurn s)
  | some op => hostLine op (passTurn s)

end Sys2Proof.Machine
end

