-- ==== Sys2Proof/Machine/Step.lean ====
section
/-! DEFINITION. One step of the system: reset before all (70_reset_and_hazards.md R290), else the engine's completion or
the host's turn (20_memory.md R70, R71, 60_exceptions.md R271). -/

namespace Sys2Proof.Machine

/-- One atomic step. Which agent moves is data of the state. Log 1. -/
def step (s : State) : Host.Outcome State Fault Refusal :=
  if s.rst then .next (applyReset s)
  else
    match engineCommand s with
    | some i => exec i s
    | none => hostTurn s

/-- The state in which the given instruction is the next the engine performs: it stands in PEND, where the engine takes
it from (10_state.md R41, 20_memory.md R74), with BUSY = 1 and its LATENCY passed. A word the decoder refuses never
reaches PEND: the host's next line writes it to CMD, where the engine decodes it. Log 4. -/
def State.withFetchWord (s : State) (nbits w : Nat) : State :=
  match decodeTableWord nbits w with
  | some i => { s with pend := some i, busy := true, latency := 0, rst := false }
  | none =>
    { s with
      pend := none
      busy := false
      rst  := false
      host := { s.host with prog := [.wr 4 0x00C (BitVec.ofNat 32 w)], pc := 0, stopped := false } }

end Sys2Proof.Machine
end

