-- ==== Sys2Proof/Machine/HostProgram.lean ====
section
/-! DEFINITION. The pseudo-instructions of the host program syntax as program lines (30_encoding.md R101, R102). -/

namespace Sys2Proof.Machine

/-- `wr NAME, VAL`: a 32-bit write of a register by its name (R101). -/
def wrLine (r : Reg) (v : Word) : HostOp := .wr 4 r.offset v

/-- `rd NAME -> name` (R101). -/
def rdLine (r : Reg) (name : Nat) : HostOp := .rd 4 r.offset name

/-- `cmd M [r]` (R102). -/
def cmdLines (i : Instr) : List HostOp := [wrLine .cmd (encode i)]

/-- `wait`: `poll STATUS, 0x00000001, 0x00000000` (R102). -/
def waitLines : List HostOp := [.poll Reg.status.offset 0x00000001 0x00000000]

/-- `run M [r]`: `cmd M [r]` then `wait` (R102). -/
def runLines (i : Instr) : List HostOp := cmdLines i ++ waitLines

/-- `ldkey K` (R102). -/
def ldKeyLines (k : Block) : List HostOp :=
  [wrLine (.key 0) (wordOf k 0), wrLine (.key 1) (wordOf k 1), wrLine (.key 2) (wordOf k 2), wrLine (.key 3) (wordOf k 3)]

/-- `ldstate B`, W0 first (R102). -/
def ldStateLines (b : Block) : List HostOp :=
  [wrLine (.state 0) (wordOf b 0), wrLine (.state 1) (wordOf b 1), wrLine (.state 2) (wordOf b 2),
    wrLine (.state 3) (wordOf b 3)]

/-- `ldnonce N` (R102). -/
def ldNonceLines (n : Nonce) : List HostOp := [wrLine (.nonce 0) (nonceWord n 0), wrLine (.nonce 1) (nonceWord n 1)]

/-- `ldctr C`, CTR_HI first (R102). -/
def ldCtrLines (c : BitVec 64) : List HostOp :=
  [wrLine .ctrHi (c.extractLsb' 32 32), wrLine .ctrLo (c.extractLsb' 0 32)]

/-- `rdstate -> B`: the four words into the names `base .. base + 3` (R102). -/
def rdStateLines (base : Nat) : List HostOp :=
  [rdLine (.state 0) base, rdLine (.state 1) (base + 1), rdLine (.state 2) (base + 2), rdLine (.state 3) (base + 3)]

/-- `rdks -> B`: the same for KS_W0..KS_W3 (R102). -/
def rdKsLines (base : Nat) : List HostOp :=
  [rdLine (.ks 0) base, rdLine (.ks 1) (base + 1), rdLine (.ks 2) (base + 2), rdLine (.ks 3) (base + 3)]

/-- The block unpacked from the names `base .. base + 3`, B[0] = W0[31:24] (R102); none if one was not read. -/
def blockOfNames (base : Nat) (names : List (Nat × Word)) : Option Block :=
  match lookupName base names, lookupName (base + 1) names, lookupName (base + 2) names, lookupName (base + 3) names with
  | some w0, some w1, some w2, some w3 =>
    some (ofWords fun j => match j with | 0 => w0 | 1 => w1 | 2 => w2 | 3 => w3)
  | _, _, _, _ => none

/-- `clr MASK`: `wr STATUS, MASK` (R102). -/
def clrLines (mask : Word) : List HostOp := [wrLine .status mask]

/-- Stream setup, once per file operation: key, KEY_EXPAND, nonce, counter 1, all flags cleared (45_host_stream.md
R231). -/
def setupLines (k : Block) (n : Nonce) : List HostOp :=
  ldKeyLines k ++ runLines .keyExpand ++ ldNonceLines n ++ ldCtrLines 1 ++ clrLines 0x000000FE

end Sys2Proof.Machine
end

