-- ==== Sys2Proof/Machine/HostStream.lean ====
section
/-! DEFINITION. The host stream contract (45_host_stream.md R230 to R244): the duties of the host software that drives
the engine, as a driver over BusRead, BusWrite and the engine's completion. Log 13. -/

namespace Sys2Proof.Machine

/-- The host's error kinds (R240). -/
inductive HostError where
  /-- open, read, write or seek failure on either file -/
  | ioError
  /-- zero-length input to encrypt; a ciphertext shorter than 25 bytes, misaligned, or with padding length above 15 -/
  | sizeError
  /-- the nonce source failed -/
  | randomnessUnavailable
  /-- an engine error flag seen after a command -/
  | engineError
deriving DecidableEq, Repr

/-- `wr`: a 32-bit write of a register (30_encoding.md R101). -/
def hostWrite (r : Reg) (v : Word) (s : State) : State := (busWrite 4 r.offset v s).2

/-- `rd`: a 32-bit read of a register (R101). -/
def hostRead (r : Reg) (s : State) : Word := (busRead 4 r.offset s).1.data

/-- `wait` (30_encoding.md R102): the polls end in the state after the engine's completion of PEND, whatever LATENCY is
(70_reset_and_hazards.md R300, R304); at once when BUSY = 0. -/
def awaitIdle (s : State) : State :=
  if s.busy then
    match s.pend with
    | none => s
    | some i =>
      match exec i s with
      | .next t => t
      | .fault _ => s
      | .refused _ => s
  else s

/-- `run M` (R102). -/
def runCommand (i : Instr) (s : State) : State := awaitIdle (hostWrite .cmd (encode i) s)

/-- `ldkey K` (R102). -/
def ldKey (k : Block) (s : State) : State :=
  hostWrite (.key 3) (wordOf k 3) (hostWrite (.key 2) (wordOf k 2) (hostWrite (.key 1) (wordOf k 1)
    (hostWrite (.key 0) (wordOf k 0) s)))

/-- `ldstate B` (R102). -/
def ldState (b : Block) (s : State) : State :=
  hostWrite (.state 3) (wordOf b 3) (hostWrite (.state 2) (wordOf b 2) (hostWrite (.state 1) (wordOf b 1)
    (hostWrite (.state 0) (wordOf b 0) s)))

/-- `ldnonce N` (R102). -/
def ldNonce (n : Nonce) (s : State) : State := hostWrite (.nonce 1) (nonceWord n 1) (hostWrite (.nonce 0) (nonceWord n 0) s)

/-- `ldctr C` (R102). -/
def ldCtr (c : BitVec 64) (s : State) : State :=
  hostWrite .ctrLo (c.extractLsb' 0 32) (hostWrite .ctrHi (c.extractLsb' 32 32) s)

/-- `rdstate -> B` (R102). -/
def rdState (s : State) : Block := ofWords fun j => hostRead (.state j) s

/-- The host's check after each `run`: ERR_BUSY, ERR_CMD, ERR_NOKEY and ERR_BUS are 0 in STATUS (R230). -/
def statusClean (s : State) : Bool := hostRead .status s &&& 0x000000B8 == 0

/-- Stream setup (R231). -/
def setup (k : Block) (n : Nonce) (s : State) : Except HostError State :=
  let t := runCommand .keyExpand (ldKey k s)
  if statusClean t then .ok (hostWrite .status 0x000000FE (ldCtr 1 (ldNonce n t))) else .error .engineError

/-- One block of a stream: `ldstate`, `run CTR_XOR`, the check, `rdstate` (R234, R235). -/
def cryptBlock (b : Block) (s : State) : Except HostError (Block × State) :=
  let t := runCommand .ctrXor (ldState b s)
  if statusClean t then .ok (rdState t, t) else .error .engineError

/-- The blocks of a stream in order (R234, R235). -/
def cryptBlocks : List Block → State → Except HostError (List Block × State)
  | [], s => .ok ([], s)
  | b :: bs, s =>
    (cryptBlock b s).bind fun (c, t) => (cryptBlocks bs t).bind fun (cs, u) => .ok (c :: cs, u)

/-- The first 16 bytes of a list, as a block. -/
def blockOfBytes (l : List Byte) : Block := Vector.ofFn fun i => l.getD i.val 0

/-- The first `n` blocks of a list of bytes. -/
def splitBlocks : Nat → List Byte → List Block
  | 0, _ => []
  | n + 1, l => blockOfBytes l :: splitBlocks n (l.drop 16)

/-- The bytes of a list of blocks. -/
def joinBlocks (bs : List Block) : List Byte := bs.flatMap (·.toList)

/-- A whole number of blocks, as bytes, through the engine. -/
def cryptBytes (l : List Byte) (s : State) : Except HostError (List Byte × State) :=
  (cryptBlocks (splitBlocks (l.length / 16) l) s).bind fun (bs, t) => .ok (joinBlocks bs, t)

/-- `p = (16 - (L mod 16)) mod 16` (R233; 90_conflicts.md C6). -/
def padLength (n : Nat) : Nat := (16 - n % 16) % 16

/-- The plaintext with its last block filled by PAD_BYTE (R233). -/
def padded (l : List Byte) : List Byte := l ++ List.replicate (padLength l.length) Config.padByte

/-- The 9-byte header: the nonce in [0, 8), the padding length at [8] (R232; 90_conflicts.md C3). -/
def header (n : Nonce) (len : Nat) : List Byte := n.toList ++ [BitVec.ofNat 8 (padLength len)]

/-- `encrypt_stream(P, K)` (R234). `input` is none when the file cannot be read, `nonce` is none when the randomness
collaborator fails; an error leaves no output (R240, R241). -/
def encryptStream (k : Block) (nonce : Option Nonce) (input : Option (List Byte)) (s : State) :
    Except HostError (List Byte × State) :=
  match input with
  | none => .error .ioError
  | some p =>
    if p.length = 0 then .error .sizeError
    else
      match nonce with
      | none => .error .randomnessUnavailable
      | some n =>
        (setup k n s).bind fun t =>
          (cryptBytes (padded p) t).bind fun (c, u) => .ok (header n p.length ++ c, u)

/-- The decrypt side's checks, before any output: at least 25 bytes, a whole number of blocks after the header, and a
padding length of at most 15 (R236, R237). -/
def frameValid (f : List Byte) : Bool :=
  25 ≤ f.length && (f.length - 9) % 16 == 0 && (f.getD 8 0).toNat ≤ 15

/-- The nonce of a frame, its bytes [0, 8) (R232). -/
def frameNonce (f : List Byte) : Nonce := Vector.ofFn fun i => f.getD i.val 0

/-- The padding length of a frame, its byte [8] (R232). -/
def framePad (f : List Byte) : Nat := (f.getD 8 0).toNat

/-- `decrypt_stream(F, K)` (R235): the last block loses its p padding bytes, whatever they hold. -/
def decryptStream (k : Block) (input : Option (List Byte)) (s : State) : Except HostError (List Byte × State) :=
  match input with
  | none => .error .ioError
  | some f =>
    if frameValid f then
      (setup k (frameNonce f) s).bind fun t =>
        (cryptBytes (f.drop 9) t).bind fun (q, u) => .ok (q.take (q.length - framePad f), u)
    else .error .sizeError

/-- The input in chunks of `buf` bytes, the last one shorter; `fuel` bounds the number of chunks (R238). -/
def chunks (buf : Nat) : Nat → List Byte → List (List Byte)
  | 0, _ => []
  | _ + 1, [] => []
  | fuel + 1, b :: bs => (b :: bs).take buf :: chunks buf fuel ((b :: bs).drop buf)

/-- The chunks in order, each one's whole blocks first and a partial block padded (R238). With BUF_SIZE a multiple of 16
only the last chunk has a partial block. -/
def cryptChunks : List (List Byte) → State → Except HostError (List Byte × State)
  | [], s => .ok ([], s)
  | c :: cs, s =>
    (cryptBytes (padded c) s).bind fun (a, t) => (cryptChunks cs t).bind fun (b, u) => .ok (a ++ b, u)

/-- Encryption with BUF_SIZE = `buf` (R238). -/
def encryptChunked (buf : Nat) (k : Block) (nonce : Option Nonce) (input : Option (List Byte)) (s : State) :
    Except HostError (List Byte × State) :=
  match input with
  | none => .error .ioError
  | some p =>
    if p.length = 0 then .error .sizeError
    else
      match nonce with
      | none => .error .randomnessUnavailable
      | some n =>
        (setup k n s).bind fun t =>
          (cryptChunks (chunks buf p.length p) t).bind fun (c, u) => .ok (header n p.length ++ c, u)

/-- Decryption with BUF_SIZE = `buf` (R238). -/
def decryptChunked (buf : Nat) (k : Block) (input : Option (List Byte)) (s : State) :
    Except HostError (List Byte × State) :=
  match input with
  | none => .error .ioError
  | some f =>
    if frameValid f then
      (setup k (frameNonce f) s).bind fun t =>
        (cryptChunks (chunks buf f.length (f.drop 9)) t).bind fun (q, u) => .ok (q.take (q.length - framePad f), u)
    else .error .sizeError

/-- Delivery of a finished operation's output: a failed write is `IoError`, and no partial output stays (R240, R241). -/
def deliver (outputWritable : Bool) (r : Except HostError (List Byte × State)) : Except HostError (List Byte × State) :=
  r.bind fun x => if outputWritable then .ok x else .error .ioError

end Sys2Proof.Machine
end

