-- ==== Sys2Proof/Safety.lean ====
section
/-! DEFINITION. What the claims call a good state and a well-behaved host (10_state.md R35, R41; 30_encoding.md R96;
70_reset_and_hazards.md R300). -/

namespace Sys2Proof.Machine

/-- The invariant of the engine's state, which reset has and every step keeps. -/
structure Inv (s : State) : Prop where
  /-- PEND is `none` exactly when STATUS.BUSY = 0 (R41). -/
  busyIffPend : s.busy = s.pend.isSome
  /-- While KEY_VALID = 1 the schedule RAM holds KeyExpansion(K) for the K in KEY_W0..3 (R35). -/
  scheduleMatchesKey : s.keyValid = true → s.rk = keyExpansion s.key
  /-- A pending command that needs the schedule keeps a valid one until its completion (R96). -/
  pendHasKey : ∀ i, s.pend = some i → i.needsKey = true → s.keyValid = true
  /-- The host's names are rising, so that equal readings are equal data. Log 12. -/
  namesRising : s.host.names.Pairwise fun a b => a.1 < b.1

/-- A host line that makes an access R300 tells the host not to make while a command runs: a read of a result, a write
of an operand, or a command. -/
def HostOp.breaksDuty : HostOp → Bool
  | .rd size off _ => ((busTarget size off).map Reg.readHazard).getD false
  | .poll off _ _ => ((busTarget 4 off).map Reg.readHazard).getD false
  | .wr size off _ => ((busTarget size off).map Reg.writeHazard).getD false
  | .label _ => false
  | .jnz _ _ => false
  | .rst => false

/-- The host keeps its duty in this state: while BUSY = 1 its next line makes no such access (R300). -/
def KeepsDuty (s : State) : Prop := s.busy = true → ∀ op, hostNext s = some op → op.breaksDuty = false

/-- No error flag is up (60_exceptions.md R261); CTR_WRAP is a warning and not among them. -/
def NoErrors (s : State) : Prop :=
  s.errBusy = false ∧ s.errCmd = false ∧ s.errNokey = false ∧ s.errBus = false

/-- The engine is idle: no command runs. -/
def Idle (s : State) : Prop := s.busy = false ∧ s.pend = none

/-- The fields no command may write: CTRL, KEY, NONCE, LUT_ADDR and the environment (30_encoding.md R97). -/
def SameInputs (s t : State) : Prop :=
  t.irqEn = s.irqEn ∧ t.key = s.key ∧ t.nonce = s.nonce ∧ t.lutTable = s.lutTable ∧ t.lutIndex = s.lutIndex ∧
    t.rst = s.rst ∧ t.latency = s.latency ∧ t.supply = s.supply ∧ t.host = s.host

/-- The commands of a list completed one after the other, each by the engine's step (10_state.md R33). -/
def execAll : List Instr → State → Host.Outcome State Fault Refusal
  | [], s => .next s
  | i :: is, s =>
    match exec i s with
    | .next t => execAll is t
    | .fault r => .fault r
    | .refused r => .refused r

end Sys2Proof.Machine
end

