-- ==== Sys2Proof/Certificates/Slice0/Obligations.lean ====
section
/-! DEFINITION. The statements for the provers, from the numbered rules of spec/. Each is listed in OBLIGATIONS.json. -/

open Sys2Proof Sys2Proof.Machine
open Host (Outcome)

/-! ## Encoding -/

/-- R91: the 23 full words, each with its command and whether it needs KEY_VALID. -/
def Obligations.OpcodeMapWordsDecode : Prop :=
  ∀ p ∈ ([(0x00000000, .nop, false), (0x00000001, .keyExpand, false), (0x00000002, .encrypt, true),
      (0x00000003, .decrypt, true), (0x00000004, .ctrGen, true), (0x00000005, .ctrXor, true),
      (0x00000010, .subBytes, false), (0x00000011, .invSubBytes, false), (0x00000012, .shiftRows, false),
      (0x00000013, .invShiftRows, false), (0x00000014, .mixColumns, false), (0x00000015, .invMixColumns, false),
      (0x00000016, .addRoundKey0, true), (0x00000116, .addRoundKey1, true), (0x00000216, .addRoundKey2, true),
      (0x00000316, .addRoundKey3, true), (0x00000416, .addRoundKey4, true), (0x00000516, .addRoundKey5, true),
      (0x00000616, .addRoundKey6, true), (0x00000716, .addRoundKey7, true), (0x00000816, .addRoundKey8, true),
      (0x00000916, .addRoundKey9, true), (0x00000A16, .addRoundKey10, true)] : List (Word × Instr × Bool)),
    decode p.1 = .ok p.2.1 ∧ p.2.1.needsKey = p.2.2

/-- R94: `decode` is total, accepts a word exactly when RSVD, OP and ROUND pass its checks, gives the OP and ROUND of the
word, and needs_key holds for the five commands named; the valid words are exactly 23. -/
def Obligations.DecodeFollowsTheFieldChecks : Prop :=
  (∀ v : Word, (∃ i, decode v = .ok i) ↔
    v.extractLsb' 12 20 = 0 ∧
      ((v.extractLsb' 0 8).toNat ≤ 0x05 ∨ 0x10 ≤ (v.extractLsb' 0 8).toNat ∧ (v.extractLsb' 0 8).toNat ≤ 0x16) ∧
      (if v.extractLsb' 0 8 = 0x16 then (v.extractLsb' 8 4).toNat ≤ 10 else v.extractLsb' 8 4 = 0)) ∧
  (∀ (v : Word) (i : Instr), decode v = .ok i → i.op = v.extractLsb' 0 8 ∧ i.round = v.extractLsb' 8 4) ∧
  (∀ i : Instr, i.needsKey = true ↔ i.op = 0x02 ∨ i.op = 0x03 ∨ i.op = 0x04 ∨ i.op = 0x05 ∨ i.op = 0x16) ∧
  (∃ l : List Word, l.length = 23 ∧ l.Nodup ∧ ∀ v : Word, (∃ i, decode v = .ok i) ↔ v ∈ l)

/-- Decode and encode agree in both directions, for every word and every command (R94, R100): no bit of a word is
dropped, and no second word stands for a command. -/
def Obligations.DecodeAgreesWithEncode : Prop :=
  ∀ (v : Word) (i : Instr), decode v = .ok i ↔ v = encode i

/-! ## The step -/

/-- Who moves (R33, R70, R74, R290; the choice of agent by `latency` is the model's, log 1): reset before all; the
engine performs exactly the command in PEND when BUSY = 1 and its LATENCY has passed; else the host has its turn. -/
def Obligations.StepRunsResetEngineOrHost : Prop :=
  ∀ s : State,
    (s.rst = true → step s = .next (applyReset s)) ∧
    (∀ i, s.rst = false → s.busy = true → s.pend = some i → s.latency = 0 → step s = exec i s) ∧
    (s.rst = false → s.busy = false → step s = hostTurn s) ∧
    (∀ k, s.rst = false → s.latency = k + 1 → step s = hostTurn s ∧ (passTurn s).latency = k)

/-- The word of a command decodes to it (R94, R100); placed in PEND, where the engine takes its next command (R41, R74), it
is performed by the very next step, whose effect is the command's meaning. That a command is placed in PEND directly is
the model's choice, log 4. -/
def Obligations.FetchedWordIsPerformedNext : Prop :=
  ∀ (s : State) (i : Instr),
    decodeTableWord 32 (encode i).toNat = some i ∧
    step (s.withFetchWord 32 (encode i).toNat) = exec i (s.withFetchWord 32 (encode i).toNat) ∧
    (s.withFetchWord 32 (encode i).toNat).pend = some i

/-- A CMD write, in the order busy, decode, key, acceptance; each case is the whole effect (R95). An invalid word that would
need the key is reported as invalid, and a write while BUSY = 1 as ERR_BUSY only, whatever the word (R270). The latency
and supply at acceptance are the model's choice, log 7, and so is the data 0 of a write's response, log 17. -/
def Obligations.CmdWriteAcceptsOrRejects : Prop :=
  ∀ (v : Word) (s : State),
    (s.busy = true → busWrite 4 0x00C v s = (okResp 0, { s with errBusy := true })) ∧
    (∀ e, s.busy = false → decode v = .error e →
      busWrite 4 0x00C v s = (okResp 0, { s with errCmd := true, done := true })) ∧
    (∀ i, s.busy = false → decode v = .ok i → i.needsKey = true → s.keyValid = false →
      busWrite 4 0x00C v s = (okResp 0, { s with errNokey := true, done := true })) ∧
    (∀ i, s.busy = false → decode v = .ok i → (i.needsKey = true → s.keyValid = true) →
      busWrite 4 0x00C v s =
        (okResp 0, { s with
          pend    := some i
          busy    := true
          done    := false
          latency := (nextLatency i.op s.supply).1
          supply  := (nextLatency i.op s.supply).2 }))

/-- R33: every command completes in one engine step that ends with BUSY 0, DONE 1 and PEND none, given the key it
needs, and no completion sets an error flag. All 23 constructors. A command that needs the key and stands in PEND while
KEY_VALID = 0, which no run reaches, ends with ERR_NOKEY and changes nothing else: the model's choice, log 3. -/
def Obligations.EveryCommandCompletes : Prop :=
  ∀ (i : Instr) (s : State),
    ((i.needsKey = true → s.keyValid = true) →
      ∃ t, exec i s = .next t ∧ t.busy = false ∧ t.done = true ∧ t.pend = none ∧ t.errNokey = s.errNokey) ∧
    (i.needsKey = true → s.keyValid = false →
      exec i s = .next { s with errNokey := true, busy := false, done := true, pend := none })

/-- R97, and the rest of every command's frame. No command writes KEY, NONCE or CTRL; only KEY_EXPAND writes the schedule
RAM and KEY_VALID; only CTR_GEN and CTR_XOR write KS, CTR and CTR_WRAP; KEY_EXPAND, NOP and CTR_GEN do not write STATE. The
lookup port, the flags ERR_BUSY, ERR_CMD and ERR_BUS, and the environment are unchanged. All 23 constructors. -/
def Obligations.CommandsKeepTheirWriteSets : Prop :=
  ∀ (i : Instr) (s t : State), exec i s = .next t →
    SameInputs s t ∧ t.errBusy = s.errBusy ∧ t.errCmd = s.errCmd ∧ t.errBus = s.errBus ∧
    (i ≠ .keyExpand → t.rk = s.rk ∧ t.keyValid = s.keyValid) ∧
    (i ≠ .ctrGen → i ≠ .ctrXor → t.ks = s.ks ∧ t.ctr = s.ctr ∧ t.ctrWrap = s.ctrWrap) ∧
    (i = .keyExpand ∨ i = .nop ∨ i = .ctrGen → t.state = s.state)

/-! ## The meanings of the commands -/

/-- NOP: nothing but the completion (R194). -/
def Obligations.NopOnlyCompletes : Prop :=
  ∀ s : State, exec .nop s = .next { s with busy := false, done := true, pend := none }

/-- SUB_BYTES and INV_SUB_BYTES: each byte of STATE through the table, nothing else (R150, R151). -/
def Obligations.SubBytesCommandsMapEachByte : Prop :=
  ∀ s : State,
    (∃ t, exec .subBytes s = .next t ∧ (∀ i : Fin 16, t.state[i] = sbox s.state[i]) ∧
      t = { s with state := t.state, busy := false, done := true, pend := none }) ∧
    (∃ t, exec .invSubBytes s = .next t ∧ (∀ i : Fin 16, t.state[i] = invSbox s.state[i]) ∧
      t = { s with state := t.state, busy := false, done := true, pend := none })

/-- SHIFT_ROWS and INV_SHIFT_ROWS: the byte permutations of R143 and R144, by their tables, nothing else (R152, R153). -/
def Obligations.ShiftRowsCommandsPermuteBytes : Prop :=
  ∀ s : State,
    (∃ t, exec .shiftRows s = .next t ∧
      (∀ i : Fin 16, t.state[i] =
        s.state[(#v[0, 5, 10, 15, 4, 9, 14, 3, 8, 13, 2, 7, 12, 1, 6, 11] : Vector (Fin 16) 16)[i]]) ∧
      t = { s with state := t.state, busy := false, done := true, pend := none }) ∧
    (∃ t, exec .invShiftRows s = .next t ∧
      (∀ i : Fin 16, t.state[i] =
        s.state[(#v[0, 13, 10, 7, 4, 1, 14, 11, 8, 5, 2, 15, 12, 9, 6, 3] : Vector (Fin 16) 16)[i]]) ∧
      t = { s with state := t.state, busy := false, done := true, pend := none })

/-- R145: with column 0 in bits 31:24 of the row's word, ShiftRows is a rotation of row r left by 8r bits and
InvShiftRows right by 8r bits. -/
def Obligations.ShiftRowsIsAWordRotation : Prop :=
  ∀ (b : Block) (r : Fin 4),
    pack (stateAt (shiftRows b) r 0) (stateAt (shiftRows b) r 1) (stateAt (shiftRows b) r 2) (stateAt (shiftRows b) r 3)
      = (pack (stateAt b r 0) (stateAt b r 1) (stateAt b r 2) (stateAt b r 3)).rotateLeft (8 * r.val) ∧
    pack (stateAt (invShiftRows b) r 0) (stateAt (invShiftRows b) r 1) (stateAt (invShiftRows b) r 2)
        (stateAt (invShiftRows b) r 3)
      = (pack (stateAt b r 0) (stateAt b r 1) (stateAt b r 2) (stateAt b r 3)).rotateRight (8 * r.val)

/-- MIX_COLUMNS and INV_MIX_COLUMNS: every column is multiplied by the circulant matrix with first row (02 03 01 01), or
(0E 0B 0D 09), in GF(2^8), nothing else (R146, R147, R154, R155). -/
def Obligations.MixColumnsCommandsMultiplyColumns : Prop :=
  ∀ s : State,
    (∃ t, exec .mixColumns s = .next t ∧
      (∀ r c : Fin 4, stateAt t.state r c =
        gmul (stateAt s.state r c) 0x02 ^^^ gmul (stateAt s.state (r + 1) c) 0x03 ^^^ stateAt s.state (r + 2) c
          ^^^ stateAt s.state (r + 3) c) ∧
      t = { s with state := t.state, busy := false, done := true, pend := none }) ∧
    (∃ t, exec .invMixColumns s = .next t ∧
      (∀ r c : Fin 4, stateAt t.state r c =
        gmul (stateAt s.state r c) 0x0E ^^^ gmul (stateAt s.state (r + 1) c) 0x0B
          ^^^ gmul (stateAt s.state (r + 2) c) 0x0D ^^^ gmul (stateAt s.state (r + 3) c) 0x09) ∧
      t = { s with state := t.state, busy := false, done := true, pend := none })

/-- ADD_ROUND_KEY r for r = 0..10 (the eleven constructors): `STATE_Wj <- STATE_Wj xor w[4r + j]`, nothing else (R156). -/
def Obligations.AddRoundKeyXorsScheduleWords : Prop :=
  (List.ofFn Instr.addRoundKey =
    [.addRoundKey0, .addRoundKey1, .addRoundKey2, .addRoundKey3, .addRoundKey4, .addRoundKey5, .addRoundKey6,
      .addRoundKey7, .addRoundKey8, .addRoundKey9, .addRoundKey10]) ∧
  ∀ (r : Fin 11) (s : State), s.keyValid = true →
    ∃ t, exec (Instr.addRoundKey r) s = .next t ∧
      (∀ j : Fin 4, wordOf t.state j = wordOf s.state j ^^^ s.rk[4 * r.val + j.val]) ∧
      t = { s with state := t.state, busy := false, done := true, pend := none }

/-- KEY_EXPAND: the schedule RAM's 44 words by the recurrence of R174 from KEY_W0..3, KEY_VALID <- 1, nothing else (R176);
RotWord moves byte 0 to the end, SubWord is SBOX on each byte, and Rcon[1..10] are the listed constants in the top byte
(R171 to R173). -/
def Obligations.KeyExpandFillsTheSchedule : Prop :=
  (∀ s : State, ∃ t, exec .keyExpand s = .next t ∧
    (∀ j : Fin 4, t.rk[j.val] = wordOf s.key j) ∧
    (∀ (i : Nat) (_ : 4 ≤ i) (_ : i < 44), t.rk[i] = t.rk[i - 4] ^^^
      (if i % 4 = 0 then subWord (rotWord t.rk[i - 1]) ^^^ rcon (i / 4) else t.rk[i - 1])) ∧
    t = { s with rk := t.rk, keyValid := true, busy := false, done := true, pend := none }) ∧
  (∀ a0 a1 a2 a3 : Byte, rotWord (pack a0 a1 a2 a3) = pack a1 a2 a3 a0 ∧
    subWord (pack a0 a1 a2 a3) = pack (sbox a0) (sbox a1) (sbox a2) (sbox a3)) ∧
  (∀ j : Fin 10, rcon (j.val + 1) =
    pack (#v[0x01, 0x02, 0x04, 0x08, 0x10, 0x20, 0x40, 0x80, 0x1b, 0x36] : Vector Byte 10)[j] 0x00 0x00 0x00)

/-- ENCRYPT: STATE <- Cipher(STATE, RK), and DECRYPT: STATE <- InvCipher(STATE, RK), nothing else (R192, R193). -/
def Obligations.EncryptAndDecryptApplyTheCipher : Prop :=
  ∀ s : State, s.keyValid = true →
    exec .encrypt s = .next { s with state := cipher s.state s.rk, busy := false, done := true, pend := none } ∧
    exec .decrypt s = .next { s with state := invCipher s.state s.rk, busy := false, done := true, pend := none }

/-- R190: Cipher's round sequence: AddRoundKey 0, nine full rounds, a last round without MixColumns. -/
def Obligations.CipherRoundSequence : Prop :=
  ∀ (p : Block) (rk : Schedule), ∃ x : Fin 10 → Block,
    x 0 = addRoundKey p (roundKey rk 0) ∧
    (∀ r : Fin 9, x r.succ =
      addRoundKey (mixColumns (shiftRows (subBytes (x r.castSucc)))) (roundKey rk (r.succ.castLE (by decide)))) ∧
    cipher p rk = addRoundKey (shiftRows (subBytes (x 9))) (roundKey rk 10)

/-- R191: InvCipher's round sequence, round keys 10 down to 0, InvMixColumns after AddRoundKey in the nine middle
rounds. `x k` is the state before round 9 - k. -/
def Obligations.InvCipherRoundSequence : Prop :=
  ∀ (c : Block) (rk : Schedule), ∃ x : Fin 10 → Block,
    x 0 = addRoundKey c (roundKey rk 10) ∧
    (∀ k : Fin 9, x k.succ =
      invMixColumns (addRoundKey (invSubBytes (invShiftRows (x k.castSucc))) (roundKey rk ((k.rev.succ).castLE (by decide))))) ∧
    invCipher c rk = addRoundKey (invSubBytes (invShiftRows (x 9))) (roundKey rk 0)

/-- ENCRYPT equals its 40 primitive commands issued one at a time, from any state with a valid schedule (R190, R278,
program P2). -/
def Obligations.EncryptEqualsItsPrimitiveCommands : Prop :=
  ∀ s : State, s.keyValid = true →
    execAll ([.addRoundKey0] ++
      [Instr.addRoundKey1, .addRoundKey2, .addRoundKey3, .addRoundKey4, .addRoundKey5, .addRoundKey6, .addRoundKey7,
        .addRoundKey8, .addRoundKey9].flatMap (fun a => [.subBytes, .shiftRows, .mixColumns, a]) ++
      [.subBytes, .shiftRows, .addRoundKey10]) s = exec .encrypt s

/-- R149: the inverse laws of the primitives in both orders, the commutations, and MixColumns on equal columns. -/
def Obligations.RoundPrimitivesInvert : Prop :=
  ∀ b k : Block,
    invSubBytes (subBytes b) = b ∧ subBytes (invSubBytes b) = b ∧
    invShiftRows (shiftRows b) = b ∧ shiftRows (invShiftRows b) = b ∧
    invMixColumns (mixColumns b) = b ∧ mixColumns (invMixColumns b) = b ∧
    addRoundKey (addRoundKey b k) k = b ∧
    subBytes (shiftRows b) = shiftRows (subBytes b) ∧
    invSubBytes (invShiftRows b) = invShiftRows (invSubBytes b) ∧
    (∀ x : Byte, ∀ c : Fin 4, (∀ r, stateAt b r c = x) → ∀ r, stateAt (mixColumns b) r c = x) ∧
    (∀ x ∈ ([0x00, 0xFF] : List Byte),
      mixColumns (Vector.replicate 16 x) = Vector.replicate 16 x ∧
      invMixColumns (Vector.replicate 16 x) = Vector.replicate 16 x)

/-- R197's laws: InvCipher and Cipher undo each other, for every block and every schedule, so for every key's. -/
def Obligations.CipherAndInvCipherUndoEachOther : Prop :=
  ∀ (b : Block) (rk : Schedule), invCipher (cipher b rk) rk = b ∧ cipher (invCipher b rk) rk = b

/-! ## CTR -/

/-- R211: under BE the counter block is the four words (NONCE_W0, NONCE_W1, CTR_HI, CTR_LO); under LE the counter's bytes
stand in the opposite order. This hardware takes BE (R8). -/
def Obligations.CounterBlockLayout : Prop :=
  Config.ctrOrder = .be ∧
  (∀ s : State,
    wordOf (counterBlock .be s.nonce s.ctr) 0 = nonceWord s.nonce 0 ∧
    wordOf (counterBlock .be s.nonce s.ctr) 1 = nonceWord s.nonce 1 ∧
    wordOf (counterBlock .be s.nonce s.ctr) 2 = ctrHiWord s ∧
    wordOf (counterBlock .be s.nonce s.ctr) 3 = ctrLoWord s) ∧
  (∀ (n : Nonce) (c : BitVec 64) (i : Fin 8),
    (counterBlock .le n c)[i.val] = n[i] ∧
    (counterBlock .le n c)[8 + i.val] = (counterBlock .be n c)[8 + i.rev.val] ∧
    (counterBlock .le n c)[8 + i.val] = c.extractLsb' (8 * i.val) 8)

/-- CTR_GEN: KS <- Cipher(CB(NONCE, CTR), RK); CTR moves on by one, CTR_WRAP when it was 2^64 - 1; STATE and the rest
unchanged (R212, R213). -/
def Obligations.CtrGenMakesKeystream : Prop :=
  ∀ s : State, s.keyValid = true →
    ∃ t, exec .ctrGen s = .next t ∧
      t.ks = cipher (counterBlock .be s.nonce s.ctr) s.rk ∧
      t.ctr.toNat = (s.ctr.toNat + 1) % 2 ^ 64 ∧
      (t.ctrWrap = true ↔ s.ctrWrap = true ∨ s.ctr.toNat = 2 ^ 64 - 1) ∧
      t = { s with ks := t.ks, ctr := t.ctr, ctrWrap := t.ctrWrap, busy := false, done := true, pend := none }

/-- CTR_XOR: as CTR_GEN, and every byte of STATE is combined with the keystream (R212, R214). -/
def Obligations.CtrXorCombinesKeystream : Prop :=
  ∀ s : State, s.keyValid = true →
    ∃ t, exec .ctrXor s = .next t ∧
      t.ks = cipher (counterBlock .be s.nonce s.ctr) s.rk ∧
      (∀ i : Fin 16, t.state[i] = s.state[i] ^^^ t.ks[i]) ∧
      t.ctr.toNat = (s.ctr.toNat + 1) % 2 ^ 64 ∧
      (t.ctrWrap = true ↔ s.ctrWrap = true ∨ s.ctr.toNat = 2 ^ 64 - 1) ∧
      t = { s with
        state := t.state, ks := t.ks, ctr := t.ctr, ctrWrap := t.ctrWrap, busy := false, done := true, pend := none }

/-- R215: of two CTR_XOR commands with the same key, nonce and counter value, the first maps STATE = x to y = x xor ks,
and the second, started with STATE = y, maps y back to x. -/
def Obligations.CtrXorIsSelfInverse : Prop :=
  ∀ s s' t : State, Inv s → Inv s' → s.keyValid = true → s'.keyValid = true →
    s'.key = s.key → s'.nonce = s.nonce → s'.ctr = s.ctr → exec .ctrXor s = .next t → s'.state = t.state →
    (∀ i : Fin 16, t.state[i] = s.state[i] ^^^ t.ks[i]) ∧
    ∃ u, exec .ctrXor s' = .next u ∧ u.state = s.state

/-- R216: after n CTR commands from CTR = c the counter is (c + n) mod 2^64, and the next one, the (n+1)-th, uses the
counter value (c + n) mod 2^64. -/
def Obligations.CounterIsMonotonic : Prop :=
  ∀ (cmds : List Instr) (s : State), (∀ i ∈ cmds, i = .ctrGen ∨ i = .ctrXor) → s.keyValid = true →
    ∃ t, execAll cmds s = .next t ∧ t.ctr = s.ctr + BitVec.ofNat 64 cmds.length ∧
      ∀ i, i = .ctrGen ∨ i = .ctrXor →
        ∃ u, exec i t = .next u ∧
          u.ks = cipher (counterBlock .be s.nonce (s.ctr + BitVec.ofNat 64 cmds.length)) s.rk

/-- R217: the keystream depends only on the key, the nonce and the counter value. -/
def Obligations.KeystreamDependsOnKeyNonceCounter : Prop :=
  ∀ (s s' : State) (i j : Instr), (i = .ctrGen ∨ i = .ctrXor) → (j = .ctrGen ∨ j = .ctrXor) →
    Inv s → Inv s' → s.keyValid = true → s'.keyValid = true →
    s'.key = s.key → s'.nonce = s.nonce → s'.ctr = s.ctr →
    ∃ t t', exec i s = .next t ∧ exec j s' = .next t' ∧ t'.ks = t.ks

/-! ## Galois field and tables -/

/-- The laws of R113: gmul is commutative and associative, distributes over xor, and has 0 and 1 as it should. -/
def Obligations.GmulLaws : Prop :=
  ∀ a b c : Byte, gmul a b = gmul b a ∧ gmul (gmul a b) c = gmul a (gmul b c) ∧
    gmul a (b ^^^ c) = gmul a b ^^^ gmul a c ∧ gmul a 0 = 0 ∧ gmul a 1 = a

/-- R114: `ginv(0) = 0`, and for a ≠ 0, ginv(a) is the unique b with gmul(a, b) = 1. -/
def Obligations.GinvIsTheUniqueInverse : Prop :=
  ginv 0 = 0 ∧ ∀ a : Byte, a ≠ 0 → ∀ b : Byte, gmul a b = 1 ↔ b = ginv a

/-- R115: each listed table is multiplication by its constant, and a sum of xtime terms. -/
def Obligations.MultiplyTablesAreProducts : Prop :=
  ∀ x : Byte,
    mul2 x = gmul x 2 ∧ mul3 x = gmul x 3 ∧ mul9 x = gmul x 9 ∧ mul11 x = gmul x 11 ∧ mul13 x = gmul x 13 ∧
    mul14 x = gmul x 14 ∧
    mul2 x = xtime x ∧ mul3 x = xtime x ^^^ x ∧ mul9 x = xtime (xtime (xtime x)) ^^^ x ∧
    mul11 x = xtime (xtime (xtime x)) ^^^ xtime x ^^^ x ∧
    mul13 x = xtime (xtime (xtime x)) ^^^ xtime (xtime x) ^^^ x ∧
    mul14 x = xtime (xtime (xtime x)) ^^^ xtime (xtime x) ^^^ xtime x

/-- R122, R124: the listed S-box is the affine map of the inverse, and the listed inverse S-box is its inverse
permutation and equals its own formula. -/
def Obligations.SubstitutionBoxesFollowTheirFormulas : Prop :=
  (∀ x : Byte, sbox x = affine (ginv x)) ∧
  (∀ x : Byte, invSbox (sbox x) = x ∧ sbox (invSbox x) = x) ∧
  (∀ y : Byte, invSbox y = ginv (invAffine y))

/-- R130: permutations, no fixed and no opposite fixed point of SBOX, linearity of the multiply tables, and the corner
values. -/
def Obligations.TablePropertiesHold : Prop :=
  Function.Bijective sbox ∧ Function.Bijective invSbox ∧ (∀ x : Byte, invSbox (sbox x) = x ∧ sbox (invSbox x) = x) ∧
  (∀ x : Byte, sbox x ≠ x ∧ sbox x ≠ x ^^^ 0xFF) ∧
  (∀ p ∈ ([(mul2, 2, 0xE5), (mul3, 3, 0x1A), (mul9, 9, 0x46), (mul11, 11, 0xA3), (mul13, 13, 0x97), (mul14, 14, 0x8D)] :
      List ((Byte → Byte) × Byte × Byte)),
    Function.Bijective p.1 ∧ (∀ a b : Byte, p.1 (a ^^^ b) = p.1 a ^^^ p.1 b) ∧ p.1 0 = 0 ∧ p.1 1 = p.2.1 ∧
      p.1 0xFF = p.2.2) ∧
  sbox 0x00 = 0x63 ∧ sbox 0xFF = 0x16 ∧ invSbox 0x00 = 0x52 ∧ invSbox 0x63 = 0x00 ∧ mul2 0x80 = 0x1B

/-- The lookup port: a write sets INDEX and TABLE and ignores the rest, also while BUSY = 1; LUT_DATA reads the selected
entry of the selected table, and the codes 0..7 select the eight tables in order (R127 to R129, R37, R38). The data 0 of a
write's response is the model's choice, log 17. -/
def Obligations.LookupPortReadsTheTables : Prop :=
  (∀ (v : Word) (s : State),
    busWrite 4 0x050 v s =
      (okResp 0, { s with lutIndex := v.extractLsb' 0 8, lutTable := v.extractLsb' 8 3 }) ∧
    (busRead 4 0x050 (busWrite 4 0x050 v s).2).1 = okResp (v &&& 0x7FF) ∧
    busRead 4 0x054 s = (okResp ((lutSelect s.lutTable s.lutIndex).setWidth 32), s)) ∧
  (lutSelect 0 = sbox ∧ lutSelect 1 = invSbox ∧ lutSelect 2 = mul2 ∧ lutSelect 3 = mul3 ∧ lutSelect 4 = mul9 ∧
    lutSelect 5 = mul11 ∧ lutSelect 6 = mul13 ∧ lutSelect 7 = mul14)

/-! ## The bus -/

/-- The register map (R20, R21): each offset names its register, and among the word offsets of the window exactly
0x058..0x0FC and 0x1B0..0x1FC are reserved; the window stands at AES_BASE, a multiple of 0x200. -/
def Obligations.RegisterMapOfTheWindow : Prop :=
  (Reg.ofOffset 0x000 = some .id ∧ Reg.ofOffset 0x004 = some .ctrl ∧ Reg.ofOffset 0x008 = some .status ∧
    Reg.ofOffset 0x00C = some .cmd ∧ Reg.ofOffset 0x048 = some .ctrHi ∧ Reg.ofOffset 0x04C = some .ctrLo ∧
    Reg.ofOffset 0x050 = some .lutAddr ∧ Reg.ofOffset 0x054 = some .lutData) ∧
  (∀ j : Fin 4, Reg.ofOffset (0x010 + 4 * j.val) = some (.key j) ∧ Reg.ofOffset (0x020 + 4 * j.val) = some (.state j) ∧
    Reg.ofOffset (0x030 + 4 * j.val) = some (.ks j)) ∧
  (∀ j : Fin 2, Reg.ofOffset (0x040 + 4 * j.val) = some (.nonce j)) ∧
  (∀ i : Fin 44, Reg.ofOffset (0x100 + 4 * i.val) = some (.rk i)) ∧
  (∀ off, off < 0x200 → off % 4 = 0 →
    (Reg.ofOffset off = none ↔ 0x058 ≤ off ∧ off ≤ 0x0FC ∨ 0x1B0 ≤ off ∧ off ≤ 0x1FC)) ∧
  (Config.aesBase % 0x200 = 0 ∧ ∀ off, windowOffset (Config.aesBase + off) = if off < 0x200 then some off else none)

/-- R62 to R64: an access in the window that is not 32 bits wide, is misaligned or is to a reserved offset gets the error
response, sets ERR_BUS and does nothing else; a read's data is 0 (R262). -/
def Obligations.BadAccessesGetABusError : Prop :=
  ∀ (size off : Nat) (v : Word) (s : State), off < 0x200 →
    (size ≠ 4 ∨ off % 4 ≠ 0 ∨ (0x058 ≤ off ∧ off ≤ 0x0FC) ∨ (0x1B0 ≤ off ∧ off ≤ 0x1FC)) →
    busRead size off s = ({ data := 0, error := true }, { s with errBus := true }) ∧
    (busWrite size off v s).1.error = true ∧ (busWrite size off v s).2 = { s with errBus := true }

/-- At any time, BUSY or not (R22, R65, R66): ID reads 0x41455331; a read of CMD or KEY_Wj returns 0 with no effect and no
error; a write to ID, KS_Wj, LUT_DATA or RK_Wi has no effect and no error. Writes to read-only fields and reserved bits
are ignored too: CTRL takes bit 0 only, LUT_ADDR bits 10:0 only, and STATUS keeps BUSY and KEY_VALID. The data 0 of a
write's response is the model's choice, log 17. -/
def Obligations.WriteOnlyReadsAndReadOnlyWrites : Prop :=
  ∀ (v : Word) (s : State),
    busRead 4 0x000 s = (okResp 0x41455331, s) ∧
    (busRead 4 0x00C s = (okResp 0, s) ∧ ∀ j : Fin 4, busRead 4 (0x010 + 4 * j.val) s = (okResp 0, s)) ∧
    (busWrite 4 0x000 v s = (okResp 0, s) ∧ busWrite 4 0x054 v s = (okResp 0, s) ∧
      (∀ j : Fin 4, busWrite 4 (0x030 + 4 * j.val) v s = (okResp 0, s)) ∧
      (∀ i : Fin 44, busWrite 4 (0x100 + 4 * i.val) v s = (okResp 0, s))) ∧
    busWrite 4 0x004 v s = busWrite 4 0x004 (v &&& 0x1) s ∧
    busWrite 4 0x050 v s = busWrite 4 0x050 (v &&& 0x7FF) s ∧
    busWrite 4 0x008 v s = busWrite 4 0x008 (v &&& 0xFA) s

/-- STATUS reads its eight bits and 0 above them, with no side effect (R24); a write to STATUS clears the W1C flags whose bits
are 1 and nothing else, also while BUSY = 1 (R25). The data 0 of a write's response is the model's choice, log 17. -/
def Obligations.StatusReadsAndClearsItsFlags : Prop :=
  ∀ (v : Word) (s : State),
    (∀ i : Nat, (busRead 4 0x008 s).1.data.getLsbD i =
      match i with
      | 0 => s.busy
      | 1 => s.done
      | 2 => s.keyValid
      | 3 => s.errBusy
      | 4 => s.errCmd
      | 5 => s.errNokey
      | 6 => s.ctrWrap
      | 7 => s.errBus
      | _ => false) ∧
    (busRead 4 0x008 s).2 = s ∧ (busRead 4 0x008 s).1.error = false ∧
    (busWrite 4 0x008 v s =
      (okResp 0, { s with
        done     := if v.getLsbD 1 then false else s.done
        errBusy  := if v.getLsbD 3 then false else s.errBusy
        errCmd   := if v.getLsbD 4 then false else s.errCmd
        errNokey := if v.getLsbD 5 then false else s.errNokey
        ctrWrap  := if v.getLsbD 6 then false else s.ctrWrap
        errBus   := if v.getLsbD 7 then false else s.errBus }))

/-- A CTRL write stores IRQ_EN at once, BUSY or not; CTRL reads it in bit 0 (R23); irq is IRQ_EN and DONE at every instant, so
setting IRQ_EN while DONE = 1 raises it at once and clearing DONE lowers it (R43, R268). The data 0 of a write's response
is the model's choice, log 17. -/
def Obligations.InterruptFollowsDone : Prop :=
  ∀ (v : Word) (s : State),
    busWrite 4 0x004 v s = (okResp 0, { s with irqEn := v.getLsbD 0 }) ∧
    (busRead 4 0x004 s).1.data = (if s.irqEn then 1 else 0) ∧
    irq s = (s.irqEn && s.done) ∧
    irq (busWrite 4 0x004 1 s).2 = s.done ∧
    irq (busWrite 4 0x008 2 s).2 = false

/-- While BUSY = 0, a write of one word of KEY, STATE, NONCE or CTR stores that word, leaves the other words of the value
and everything else unchanged, and a KEY write clears KEY_VALID (R28, R29, R31, R32, R61). The data 0 of a write's
response is the model's choice, log 17. -/
def Obligations.DataRegisterWritesStoreOneWord : Prop :=
  ∀ (v : Word) (s : State), s.busy = false →
    (∀ j : Fin 4, ∃ t, busWrite 4 (0x010 + 4 * j.val) v s = (okResp 0, t) ∧
      (∀ k, wordOf t.key k = if k = j then v else wordOf s.key k) ∧ t = { s with key := t.key, keyValid := false }) ∧
    (∀ j : Fin 4, ∃ t, busWrite 4 (0x020 + 4 * j.val) v s = (okResp 0, t) ∧
      (∀ k, wordOf t.state k = if k = j then v else wordOf s.state k) ∧ t = { s with state := t.state }) ∧
    (∀ j : Fin 2, ∃ t, busWrite 4 (0x040 + 4 * j.val) v s = (okResp 0, t) ∧
      (∀ k, nonceWord t.nonce k = if k = j then v else nonceWord s.nonce k) ∧ t = { s with nonce := t.nonce }) ∧
    (∃ t, busWrite 4 0x048 v s = (okResp 0, t) ∧ ctrHiWord t = v ∧ ctrLoWord t = ctrLoWord s ∧
      t = { s with ctr := t.ctr }) ∧
    (∃ t, busWrite 4 0x04C v s = (okResp 0, t) ∧ ctrLoWord t = v ∧ ctrHiWord t = ctrHiWord s ∧
      t = { s with ctr := t.ctr })

/-- While BUSY = 0, a read returns the register's word and changes nothing: STATE_Wj, KS_Wj, NONCE_Wj, CTR_HI, CTR_LO,
and RK_Wi, which reads 0 while KEY_VALID = 0 (R29 to R32, R39, R60). -/
def Obligations.IdleReadsAreExact : Prop :=
  ∀ s : State, s.busy = false →
    (∀ j : Fin 4, busRead 4 (0x020 + 4 * j.val) s = (okResp (wordOf s.state j), s) ∧
      busRead 4 (0x030 + 4 * j.val) s = (okResp (wordOf s.ks j), s)) ∧
    (∀ j : Fin 2, busRead 4 (0x040 + 4 * j.val) s = (okResp (nonceWord s.nonce j), s)) ∧
    busRead 4 0x048 s = (okResp (s.ctr.extractLsb' 32 32), s) ∧
    busRead 4 0x04C s = (okResp (s.ctr.extractLsb' 0 32), s) ∧
    (∀ i : Fin 44, busRead 4 (0x100 + 4 * i.val) s = (okResp (if s.keyValid then s.rk[i] else 0), s))

/-- While BUSY = 1 a write to KEY_W*, STATE_W*, NONCE_W*, CTR_HI or CTR_LO (R297) or to CMD (R299) is dropped and sets
ERR_BUSY; writes to CTRL, STATUS and LUT_ADDR take effect as when BUSY = 0 (R297). The data 0 of a write's response is the
model's choice, log 17. -/
def Obligations.BusyWritesAreDropped : Prop :=
  ∀ (off : Nat) (v : Word) (s : State), s.busy = true → off % 4 = 0 →
    ((0x00C ≤ off ∧ off ≤ 0x02C) ∨ (0x040 ≤ off ∧ off ≤ 0x04C) →
      busWrite 4 off v s = (okResp 0, { s with errBusy := true })) ∧
    (off = 0x004 ∨ off = 0x008 ∨ off = 0x050 →
      (busWrite 4 off v s).2 = { (busWrite 4 off v { s with busy := false }).2 with busy := true })

/-- While BUSY = 1 a read of STATE_W*, KS_W*, CTR_HI, CTR_LO or RK_W* returns `draw()`, with no register changed, and every
other read is exact (R298). That a draw is the opaque constant at the draw counter, which moves on by one, is the model's
choice, log 6; the statement holds for every value of the counter. -/
def Obligations.BusyReadsAreDraws : Prop :=
  ∀ (off : Nat) (s : State), s.busy = true → off % 4 = 0 →
    ((0x020 ≤ off ∧ off ≤ 0x03C) ∨ off = 0x048 ∨ off = 0x04C ∨ (0x100 ≤ off ∧ off ≤ 0x1AC) →
      busRead 4 off s = (okResp (Config.draw s.supply.draws),
        { s with supply := { s.supply with draws := s.supply.draws + 1 } })) ∧
    (busRead 4 0x000 s = (okResp 0x41455331, s) ∧ busRead 4 0x004 s = (okResp (ctrlWord s), s) ∧
      busRead 4 0x008 s = (okResp (statusWord s), s) ∧ busRead 4 0x00C s = (okResp 0, s) ∧
      (∀ j : Fin 4, busRead 4 (0x010 + 4 * j.val) s = (okResp 0, s)) ∧
      (∀ j : Fin 2, busRead 4 (0x040 + 4 * j.val) s = (okResp (nonceWord s.nonce j), s)) ∧
      busRead 4 0x050 s = (okResp (lutAddrWord s), s) ∧ busRead 4 0x054 s = (okResp (lutDataWord s), s))

/-- R69: a read changes no register except that a bus error sets ERR_BUS; it takes a free value only under the hazard of
R298, and an idle read is repeatable. -/
def Obligations.ReadsHaveNoSideEffects : Prop :=
  ∀ (size off : Nat) (s : State),
    (busRead size off s).2 = { s with errBus := (busRead size off s).2.errBus, supply := (busRead size off s).2.supply } ∧
    ((busRead size off s).2.errBus = (s.errBus || (busRead size off s).1.error)) ∧
    (s.busy = false → (busRead size off s).2.supply = s.supply ∧
      (busRead size off (busRead size off s).2).1.error = (busRead size off s).1.error ∧
      ((busRead size off s).1.error = false → busRead size off (busRead size off s).2 = busRead size off s))

/-- The host's turn does exactly what its line says (R70, R71, R101). A rd, wr or poll line makes the one BusRead or
BusWrite it names: the engine's registers after it are those the access leaves, and the response is kept. A rd keeps the
value under its name and leaves the other names; a poll stays at its line until data and mask is val. The lines label,
jnz and rst, and a turn without a line, make no access. The model's choices: the turn and the latency it counts, log 1;
the stop outside the window, log 9; rst as a line, log 11; places, names and labels as data, the condition of jnz and
the stops of a malformed program, log 12; the idle turn, log 14; the kept response, log 17. -/
def Obligations.HostLineMakesItsAccess : Prop :=
  ∀ s : State, s.rst = false → engineCommand s = none →
    (∀ size off v, hostNext s = some (.wr size off v) → off < 0x200 →
      ∃ t, step s = .next t ∧
        t = { (busWrite size off v (passTurn s)).2 with supply := t.supply, host := t.host } ∧
        t.host.resp = some (busWrite size off v (passTurn s)).1 ∧ t.host.prog = s.host.prog ∧
        t.host.names = s.host.names ∧ t.host.pc = s.host.pc + 1) ∧
    (∀ size off name, hostNext s = some (.rd size off name) → off < 0x200 →
      ∃ t, step s = .next t ∧
        t = { (busRead size off (passTurn s)).2 with supply := t.supply, host := t.host } ∧
        t.host.resp = some (busRead size off (passTurn s)).1 ∧ t.host.prog = s.host.prog ∧
        lookupName name t.host.names = some (busRead size off (passTurn s)).1.data ∧
        (∀ n, n ≠ name → lookupName n t.host.names = lookupName n s.host.names) ∧ t.host.pc = s.host.pc + 1) ∧
    (∀ off mask val, hostNext s = some (.poll off mask val) → off < 0x200 →
      ∃ t, step s = .next t ∧
        t = { (busRead 4 off (passTurn s)).2 with supply := t.supply, host := t.host } ∧
        t.host.resp = some (busRead 4 off (passTurn s)).1 ∧ t.host.prog = s.host.prog ∧
        t.host.names = s.host.names ∧
        t.host.pc = if (busRead 4 off (passTurn s)).1.data &&& mask = val then s.host.pc + 1 else s.host.pc) ∧
    (∀ size off v name mask val, 0x200 ≤ off →
      hostNext s = some (.wr size off v) ∨ hostNext s = some (.rd size off name) ∨
        hostNext s = some (.poll off mask val) → step s = .fault (.outsideWindow off)) ∧
    (∀ l, hostNext s = some (HostOp.label l) →
      step s = .next { passTurn s with host := { s.host with pc := s.host.pc + 1 } }) ∧
    (∀ name l, hostNext s = some (.jnz name l) →
      (lookupName name s.host.names = none → step s = .fault (.unreadName name)) ∧
      (lookupName name s.host.names = some 0 →
        step s = .next { passTurn s with host := { s.host with pc := s.host.pc + 1 } }) ∧
      (∀ v, lookupName name s.host.names = some v → v ≠ 0 →
        (∀ place : Nat, s.host.prog[place]? = some (HostOp.label l) → (∀ k < place, s.host.prog[k]? ≠ some (.label l)) →
          step s = .next { passTurn s with host := { s.host with pc := place } }) ∧
        ((∀ k : Nat, s.host.prog[k]? ≠ some (HostOp.label l)) → step s = .fault (.unknownLabel l)))) ∧
    (hostNext s = some .rst →
      step s = .next { passTurn s with rst := true, host := { s.host with pc := s.host.pc + 1 } }) ∧
    (hostNext s = none → step s = .next (passTurn s))

/-! ## Reset -/

/-- The reset state (R45): every readable register has its stated reset value. The schedule RAM's contents are free
values (log 5) and nothing is said of them. -/
def Obligations.ResetStateHasTheStatedValues : Prop :=
  (busRead 4 0x000 State.reset).1.data = 0x41455331 ∧ (busRead 4 0x004 State.reset).1.data = 0 ∧
  (busRead 4 0x008 State.reset).1.data = 0 ∧
  State.reset.key = Vector.replicate 16 0 ∧ State.reset.state = Vector.replicate 16 0 ∧
  State.reset.ks = Vector.replicate 16 0 ∧ State.reset.nonce = Vector.replicate 8 0 ∧
  (busRead 4 0x048 State.reset).1.data = 0 ∧ (busRead 4 0x04C State.reset).1.data = 1 ∧
  (busRead 4 0x050 State.reset).1.data = 0 ∧ (busRead 4 0x054 State.reset).1.data = 0x63 ∧
  (∀ i : Fin 44, (busRead 4 (0x100 + 4 * i.val) State.reset).1.data = 0) ∧
  State.reset.pend = none ∧ State.reset.busy = false ∧ State.reset.done = false ∧ State.reset.keyValid = false ∧
  irq State.reset = false

/-- R290 and R291: an asserted rst takes precedence over both agents and puts the reset values in place, also during a
command, which is abandoned: BUSY 0, DONE 0, PEND none, no interrupt, KEY_VALID 0, and no partial result. -/
def Obligations.ResetTakesPrecedence : Prop :=
  ∀ s : State, s.rst = true → ∃ t, step s = .next t ∧
    t.busy = false ∧ t.pend = none ∧ t.done = false ∧ t.keyValid = false ∧ t.irqEn = false ∧ irq t = false ∧
    statusWord t = 0 ∧ t.key = Vector.replicate 16 0 ∧ t.state = Vector.replicate 16 0 ∧
    t.ks = Vector.replicate 16 0 ∧ t.nonce = Vector.replicate 8 0 ∧ t.ctr = 1 ∧ t.lutTable = 0 ∧ t.lutIndex = 0

/-! ## The whole machine -/

/-- The invariant holds at reset. -/
def Obligations.ResetSatisfiesTheInvariant : Prop := Inv State.reset

/-- Every step keeps the invariant, from every state that has it: PEND is none exactly when BUSY = 0 (R41), the schedule
RAM holds KeyExpansion(KEY) while KEY_VALID = 1 (R35), a pending command keeps the schedule it needs (R96), and the
host's names stay rising. -/
def Obligations.EveryStepKeepsTheInvariant : Prop :=
  ∀ s t : State, Inv s → step s = .next t → Inv t

/-- R36: the five error flags are sticky: a step without reset that lowers one is the host's turn, not a completion, and
its line is the STATUS write with the flag's bit 1. So no command lowers one, in any state. -/
def Obligations.ErrorFlagsAreSticky : Prop :=
  ∀ (s t : State), step s = .next t → s.rst = false →
    (∀ n ∈ [3, 4, 5, 6, 7], (statusWord s).getLsbD n = true → (statusWord t).getLsbD n = false →
      engineCommand s = none ∧ ∃ v : Word, hostNext s = some (.wr 4 0x008 v) ∧ v.getLsbD n = true)

/-- R267: DONE rises only at the completion of the command in PEND or at the rejection of a CMD write. -/
def Obligations.DoneRisesOnCompletionOrRejection : Prop :=
  ∀ (s t : State), step s = .next t → s.rst = false → s.done = false → t.done = true →
    (∃ i, engineCommand s = some i ∧ exec i s = .next t) ∨
    (∃ v : Word, hostNext s = some (.wr 4 0x00C v) ∧ s.busy = false ∧ t.busy = false ∧
      (t.errCmd = true ∨ t.errNokey = true))

/-- KEY_VALID rises only at the completion of KEY_EXPAND and falls only at an accepted KEY write or at reset (R24, R35,
R97); the schedule RAM changes only at the completion of KEY_EXPAND or at reset (R40, R177). -/
def Obligations.KeyValidAndScheduleChangeOnlyAsStated : Prop :=
  ∀ (s t : State), step s = .next t → s.rst = false →
    (s.keyValid = false → t.keyValid = true → engineCommand s = some .keyExpand) ∧
    (t.rk ≠ s.rk → engineCommand s = some .keyExpand) ∧
    (s.keyValid = true → t.keyValid = false → s.busy = false ∧
      ∃ (j : Fin 4) (v : Word), hostNext s = some (.wr 4 (0x010 + 4 * j.val) v))

/-- The schedule RAM is unobservable until KEY_EXPAND writes it (R40, R46): two states with KEY_VALID = 0 that differ only
in the RAM take the same step, to states that differ at most in the RAM, and not even there once KEY_VALID = 1. So
nothing depends on the RAM's free reset contents. -/
def Obligations.UnwrittenScheduleIsUnobservable : Prop :=
  ∀ (s : State) (w : Schedule), s.keyValid = false →
    match step s with
    | .next t => ∃ w', step { s with rk := w } = .next { t with rk := w' } ∧ (t.keyValid = true → w' = t.rk)
    | .fault r => step { s with rk := w } = .fault r
    | .refused r => step { s with rk := w } = .refused r

/-- R304: while a command is pending, every step that is not a reset and does not stop completes it or brings its
completion one turn nearer, so it completes within `latency + 1` steps. -/
def Obligations.PendingCommandDrawsNearer : Prop :=
  ∀ (s t : State) (i : Instr), s.busy = true → s.pend = some i → s.rst = false → step s = .next t →
    (s.latency = 0 ∧ exec i s = .next t ∧ t.busy = false) ∨
    (t.busy = true ∧ t.pend = some i ∧ t.latency + 1 = s.latency ∧ t.state = s.state ∧ t.key = s.key ∧
      t.nonce = s.nonce ∧ t.ctr = s.ctr ∧ t.rk = s.rk ∧ t.ks = s.ks ∧ t.keyValid = s.keyValid)

/-- The host lines `run M` (a CMD write and a poll of BUSY), from an idle engine that has the key M needs, end after
finitely many steps with exactly M's effect, whatever LATENCY is (R300, R304): the engine's registers are those of
`exec M`, and the host stands at the next line. That LATENCY is counted in host turns is the model's choice, log 1 and
log 7, and so is the host's program as data, log 12. -/
def Obligations.RunEndsWithTheCommandsEffect : Prop :=
  ∀ (s : State) (i : Instr) (before after : List HostOp),
    s.rst = false → Idle s → s.host.stopped = false → (i.needsKey = true → s.keyValid = true) →
    s.host.prog = before ++ runLines i ++ after → s.host.pc = before.length →
    ∃ (n : Nat) (t u : State), exec i s = .next u ∧ Host.Core.run core n s = .next t ∧
      t = { u with latency := t.latency, supply := t.supply, host := t.host } ∧
      t.host.pc = before.length + 2 ∧ t.host.names = s.host.names ∧ t.host.stopped = false

/-- A host that keeps the duty of R300 never meets R297 to R299: its turn sets no ERR_BUSY. -/
def Obligations.DutifulHostNeverSetsErrBusy : Prop :=
  ∀ s t : State, KeepsDuty s → s.rst = false → step s = .next t → s.errBusy = false → t.errBusy = false

/-! ## The host stream contract -/

/-- R233: the padding length is (16 - (L mod 16)) mod 16, in 0..15, 0 exactly for multiples of 16; the padded plaintext
is ceil(L / 16) blocks and ends in p bytes PAD_BYTE = 0x00 (D25); the file size is 9 + 16 B; the values of R244. -/
def Obligations.PaddingFillsTheLastBlock : Prop :=
  (∀ l : List Byte,
    padLength l.length = (16 - l.length % 16) % 16 ∧ padLength l.length ≤ 15 ∧
    (padLength l.length = 0 ↔ 16 ∣ l.length) ∧
    (padded l).length = 16 * ((l.length + 15) / 16) ∧
    padded l = l ++ List.replicate (padLength l.length) 0x00 ∧
    (∀ n : Nonce, (header n l.length ++ padded l).length = 9 + 16 * ((l.length + 15) / 16))) ∧
  ([16, 17, 31, 32, 20, 1, 15, 33].map padLength = [0, 15, 1, 0, 12, 15, 1, 15])

/-- Decryption rejects with SizeError, before any engine access, a frame shorter than 25 bytes, one whose length less 9 is no
multiple of 16, and one whose padding byte is above 15 (R236, R237); encryption rejects an empty input with SizeError,
then a failed nonce source (R234, R240); an unreadable input is IoError (R240). That it is IoError whatever the nonce
source does is the model's order of errors, log 13. -/
def Obligations.StreamErrorsBeforeAnyOutput : Prop :=
  (∀ (k : Block) (f : List Byte) (s : State),
    (f.length < 25 ∨ (f.length - 9) % 16 ≠ 0 ∨ 15 < (f.getD 8 0).toNat) →
      decryptStream k (some f) s = .error .sizeError) ∧
  (∀ (k : Block) (nonce : Option Nonce) (s : State), encryptStream k nonce (some []) s = .error .sizeError) ∧
  (∀ (k : Block) (p : List Byte) (s : State), p ≠ [] →
    encryptStream k none (some p) s = .error .randomnessUnavailable) ∧
  (∀ (k : Block) (nonce : Option Nonce) (s : State),
    encryptStream k nonce none s = .error .ioError ∧ decryptStream k none s = .error .ioError)

/-- From an idle engine without error flags, encryption succeeds, and its frame is the nonce, the padding length and the
padded plaintext's blocks, block i (from 0) combined with Cipher(CB(N, i + 1), KeyExpansion(K)) (R231 to R234). That the
host is a driver whose waits take the completion is the model's choice, log 13. -/
def Obligations.EncryptStreamIsTheKeystreamSum : Prop :=
  ∀ (k : Block) (n : Nonce) (p : List Byte) (s : State), Idle s → NoErrors s → p ≠ [] →
    ∃ t, encryptStream k (some n) (some p) s =
        .ok (n.toList ++ [BitVec.ofNat 8 (padLength p.length)] ++
          joinBlocks ((splitBlocks ((p.length + 15) / 16) (padded p)).zipIdx.map fun (b, i) =>
            xorBlock b (cipher (counterBlock .be n (BitVec.ofNat 64 (i + 1))) (keyExpansion k))), t) ∧
      t.ctr = BitVec.ofNat 64 ((p.length + 15) / 16 + 1) ∧ Idle t ∧ NoErrors t

/-- Round trip (R234, R235, R215): decrypting an encrypted file under the same key gives back the plaintext, from any idle
engine without error flags, for every length of at least 1 and every nonce. That the host is a driver whose waits take
the completion is the model's choice, log 13. -/
def Obligations.DecryptStreamInvertsEncryptStream : Prop :=
  ∀ (k : Block) (n : Nonce) (p : List Byte) (s s' : State), Idle s → NoErrors s → Idle s' → NoErrors s' → p ≠ [] →
    ∃ f t t', encryptStream k (some n) (some p) s = .ok (f, t) ∧ decryptStream k (some f) s' = .ok (p, t')

/-- The output does not depend on BUF_SIZE, a multiple of 16 and at least 16, in either direction (R239). Both sides are the
model's driver of the host stream, whose form is its choice, log 13. -/
def Obligations.OutputDoesNotDependOnBufferSize : Prop :=
  ∀ (buf : Nat) (k : Block) (nonce : Option Nonce) (input : Option (List Byte)) (s : State),
    16 ≤ buf → 16 ∣ buf →
    encryptChunked buf k nonce input s = encryptStream k nonce input s ∧
    decryptChunked buf k input s = decryptStream k input s
end

