-- ==== Sys2Proof/Laws/Bytes.lean ====
section
/-! SUPPORT. Packing and the views of a block undo each other (00_scope.md R10, R11). -/

namespace Sys2Proof.Machine

/-- The bits of a packed word: byte 3 lowest (R11). -/
theorem pack_getLsbD (a b c d : Byte) (i : Nat) :
    (pack a b c d).getLsbD i =
      if i < 8 then d.getLsbD i else if i < 16 then c.getLsbD (i - 8)
      else if i < 24 then b.getLsbD (i - 16) else a.getLsbD (i - 24) := by
  have e : (pack a b c d).getLsbD i = BitVec.getLsbD (w := 8 + 8 + 8 + 8) (a ++ b ++ c ++ d) i := rfl
  rw [e]
  simp only [BitVec.getLsbD_append]
  by_cases h1 : i < 8 <;> by_cases h2 : i < 16 <;> by_cases h3 : i < 24 <;>
    simp [h1, h2, h3, show (i - 8 < 8) = (i < 16) by simp; omega, Nat.sub_sub] <;> omega

theorem unpack_getLsbD (w : Word) (t : Fin 4) (i : Nat) :
    (unpack w t).getLsbD i = (decide (i < 8) && w.getLsbD (8 * (3 - t.val) + i)) := by
  simp [unpack]

@[simp] theorem unpack_pack_0 (a b c d : Byte) : unpack (pack a b c d) 0 = a := by
  refine BitVec.eq_of_getLsbD_eq fun i hi => ?_
  rw [unpack_getLsbD, pack_getLsbD]
  simp [hi, show ¬ 24 + i < 8 by omega, show ¬ 24 + i < 16 by omega]
@[simp] theorem unpack_pack_1 (a b c d : Byte) : unpack (pack a b c d) 1 = b := by
  refine BitVec.eq_of_getLsbD_eq fun i hi => ?_
  rw [unpack_getLsbD, pack_getLsbD]
  simp [hi, show ¬ 16 + i < 16 by omega, show 16 + i < 24 by omega, show ¬ 16 + i < 8 by omega]
@[simp] theorem unpack_pack_2 (a b c d : Byte) : unpack (pack a b c d) 2 = c := by
  refine BitVec.eq_of_getLsbD_eq fun i hi => ?_
  rw [unpack_getLsbD, pack_getLsbD]
  simp [hi, show 8 + i < 16 by omega]
@[simp] theorem unpack_pack_3 (a b c d : Byte) : unpack (pack a b c d) 3 = d := by
  refine BitVec.eq_of_getLsbD_eq fun i hi => ?_
  rw [unpack_getLsbD, pack_getLsbD]
  simp [hi]

@[simp] theorem pack_unpack (w : Word) : pack (unpack w 0) (unpack w 1) (unpack w 2) (unpack w 3) = w := by
  refine BitVec.eq_of_getLsbD_eq fun i hi => ?_
  simp only [pack_getLsbD, unpack_getLsbD]
  by_cases h1 : i < 8
  · simp [h1]
  by_cases h2 : i < 16
  · simp [h1, h2, show i - 8 < 8 by omega, show 8 + (i - 8) = i by omega]
  by_cases h3 : i < 24
  · simp [h1, h2, h3, show i - 16 < 8 by omega, show 16 + (i - 16) = i by omega]
  · simp [h1, h2, h3, show i - 24 < 8 by omega, show 24 + (i - 24) = i by omega]

@[simp] theorem xorBlock_getElem (a b : Block) (i : Nat) (h : i < 16) : (xorBlock a b)[i] = a[i] ^^^ b[i] := by
  simp [xorBlock]

theorem xorBlock_cancel_right (a b : Block) : xorBlock (xorBlock a b) b = a := by
  ext i h; simp

@[simp] theorem stateAt_ofState (f : Fin 4 → Fin 4 → Byte) (r c : Fin 4) : stateAt (ofState f) r c = f r c := by
  have h1 : (4 * c.val + r.val) % 4 = r.val := by omega
  have h2 : (4 * c.val + r.val) / 4 = c.val := by omega
  simp [stateAt, ofState, h1, h2]

/-- Two blocks with the same state view are equal. -/
theorem block_ext_state {a b : Block} (h : ∀ r c, stateAt a r c = stateAt b r c) : a = b := by
  ext1 i hi
  have := h ⟨i % 4, by omega⟩ ⟨i / 4, by omega⟩
  have e : 4 * (i / 4) + i % 4 = i := by omega
  simpa [stateAt, e] using this

@[simp] theorem ofState_stateAt (b : Block) : ofState (stateAt b) = b :=
  block_ext_state fun r c => stateAt_ofState _ r c

/-- Two blocks with the same four words are equal. -/
theorem block_ext_words {a b : Block} (h : ∀ j, wordOf a j = wordOf b j) : a = b := by
  have byte : ∀ (j : Fin 4),
      a[4 * j.val] = b[4 * j.val] ∧ a[4 * j.val + 1] = b[4 * j.val + 1] ∧ a[4 * j.val + 2] = b[4 * j.val + 2] ∧
        a[4 * j.val + 3] = b[4 * j.val + 3] := by
    intro j
    have hj := h j
    simp only [wordOf] at hj
    exact ⟨by simpa using congrArg (unpack · 0) hj, by simpa using congrArg (unpack · 1) hj,
      by simpa using congrArg (unpack · 2) hj, by simpa using congrArg (unpack · 3) hj⟩
  refine block_ext_state fun r c => ?_
  obtain ⟨h0, h1, h2, h3⟩ := byte c
  match r with
  | 0 => exact h0
  | 1 => exact h1
  | 2 => exact h2
  | 3 => exact h3

@[simp] theorem wordOf_ofWords (w : Fin 4 → Word) (j : Fin 4) : wordOf (ofWords w) j = w j := by
  have h0 : 4 * j.val % 4 = 0 := by omega
  have h1 : (4 * j.val + 1) % 4 = 1 := by omega
  have h2 : (4 * j.val + 2) % 4 = 2 := by omega
  have h3 : (4 * j.val + 3) % 4 = 3 := by omega
  have d1 : (4 * j.val + 1) / 4 = j.val := by omega
  have d2 : (4 * j.val + 2) / 4 = j.val := by omega
  have d3 : (4 * j.val + 3) / 4 = j.val := by omega
  simp only [wordOf, ofWords, Vector.getElem_ofFn, h1, h2, h3, d1, d2, d3]
  simp [h0]

@[simp] theorem ofWords_wordOf (b : Block) : ofWords (wordOf b) = b :=
  block_ext_words fun j => wordOf_ofWords _ j

@[simp] theorem wordOf_setWord (b : Block) (j k : Fin 4) (w : Word) :
    wordOf (setWord b j w) k = if k = j then w else wordOf b k := by
  have h1 : (4 * k.val + 1) % 4 = 1 := by omega
  have h2 : (4 * k.val + 2) % 4 = 2 := by omega
  have h3 : (4 * k.val + 3) % 4 = 3 := by omega
  have d1 : (4 * k.val + 1) / 4 = k.val := by omega
  have d2 : (4 * k.val + 2) / 4 = k.val := by omega
  have d3 : (4 * k.val + 3) / 4 = k.val := by omega
  simp only [wordOf, setWord, Vector.getElem_ofFn, h1, h2, h3, d1, d2, d3, Fin.ext_iff]
  by_cases h : k.val = j.val
  · simp [h]
  · simp [h]

@[simp] theorem nonceWord_setNonceWord (n : Nonce) (j k : Fin 2) (w : Word) :
    nonceWord (setNonceWord n j w) k = if k = j then w else nonceWord n k := by
  have h1 : (4 * k.val + 1) % 4 = 1 := by omega
  have h2 : (4 * k.val + 2) % 4 = 2 := by omega
  have h3 : (4 * k.val + 3) % 4 = 3 := by omega
  have d1 : (4 * k.val + 1) / 4 = k.val := by omega
  have d2 : (4 * k.val + 2) / 4 = k.val := by omega
  have d3 : (4 * k.val + 3) / 4 = k.val := by omega
  simp only [nonceWord, setNonceWord, Vector.getElem_ofFn, h1, h2, h3, d1, d2, d3, Fin.ext_iff]
  by_cases h : k.val = j.val
  · simp [h]
  · simp [h]

@[simp] theorem wordOf_roundKey (rk : Schedule) (r : Fin 11) (j : Fin 4) :
    wordOf (roundKey rk r) j = rk[4 * r.val + j.val] := by
  simp [roundKey]

/-- The schedule's recurrence, read off the sliding window (42_key_schedule.md R174). -/
theorem keyWindow_succ_w0 (k : Block) (n : Nat) : (keyWindow k (n + 1)).w0 = (keyWindow k n).w1 := rfl
theorem keyWindow_succ_w1 (k : Block) (n : Nat) : (keyWindow k (n + 1)).w1 = (keyWindow k n).w2 := rfl
theorem keyWindow_succ_w2 (k : Block) (n : Nat) : (keyWindow k (n + 1)).w2 = (keyWindow k n).w3 := rfl
theorem keyWindow_succ_w3 (k : Block) (n : Nat) :
    (keyWindow k (n + 1)).w3 = (keyWindow k n).w0 ^^^ keyTemp (n + 4) (keyWindow k n).w3 := rfl

@[simp] theorem keyExpansion_getElem (k : Block) (i : Nat) (h : i < 44) :
    (keyExpansion k)[i] = (keyWindow k i).w0 := by
  simp [keyExpansion]

end Sys2Proof.Machine
end

