-- ==== Sys2Proof/Laws/State.lean ====
section
/-! SUPPORT. What each shared update does to each field of the state, so that no proof unfolds a record update. -/

namespace Sys2Proof.Machine

section completeFields
@[simp] theorem complete_irqEn (s : State) : (complete s).irqEn = s.irqEn := rfl
@[simp] theorem complete_busy (s : State) : (complete s).busy = false := rfl
@[simp] theorem complete_done (s : State) : (complete s).done = true := rfl
@[simp] theorem complete_keyValid (s : State) : (complete s).keyValid = s.keyValid := rfl
@[simp] theorem complete_errBusy (s : State) : (complete s).errBusy = s.errBusy := rfl
@[simp] theorem complete_errCmd (s : State) : (complete s).errCmd = s.errCmd := rfl
@[simp] theorem complete_errNokey (s : State) : (complete s).errNokey = s.errNokey := rfl
@[simp] theorem complete_ctrWrap (s : State) : (complete s).ctrWrap = s.ctrWrap := rfl
@[simp] theorem complete_errBus (s : State) : (complete s).errBus = s.errBus := rfl
@[simp] theorem complete_key (s : State) : (complete s).key = s.key := rfl
@[simp] theorem complete_state (s : State) : (complete s).state = s.state := rfl
@[simp] theorem complete_ks (s : State) : (complete s).ks = s.ks := rfl
@[simp] theorem complete_nonce (s : State) : (complete s).nonce = s.nonce := rfl
@[simp] theorem complete_ctr (s : State) : (complete s).ctr = s.ctr := rfl
@[simp] theorem complete_lutTable (s : State) : (complete s).lutTable = s.lutTable := rfl
@[simp] theorem complete_lutIndex (s : State) : (complete s).lutIndex = s.lutIndex := rfl
@[simp] theorem complete_rk (s : State) : (complete s).rk = s.rk := rfl
@[simp] theorem complete_pend (s : State) : (complete s).pend = none := rfl
@[simp] theorem complete_rst (s : State) : (complete s).rst = s.rst := rfl
@[simp] theorem complete_latency (s : State) : (complete s).latency = s.latency := rfl
@[simp] theorem complete_supply (s : State) : (complete s).supply = s.supply := rfl
@[simp] theorem complete_host (s : State) : (complete s).host = s.host := rfl
end completeFields

section rejectInvalidFields
@[simp] theorem rejectInvalid_irqEn (s : State) : (rejectInvalid s).irqEn = s.irqEn := rfl
@[simp] theorem rejectInvalid_busy (s : State) : (rejectInvalid s).busy = s.busy := rfl
@[simp] theorem rejectInvalid_done (s : State) : (rejectInvalid s).done = true := rfl
@[simp] theorem rejectInvalid_keyValid (s : State) : (rejectInvalid s).keyValid = s.keyValid := rfl
@[simp] theorem rejectInvalid_errBusy (s : State) : (rejectInvalid s).errBusy = s.errBusy := rfl
@[simp] theorem rejectInvalid_errCmd (s : State) : (rejectInvalid s).errCmd = true := rfl
@[simp] theorem rejectInvalid_errNokey (s : State) : (rejectInvalid s).errNokey = s.errNokey := rfl
@[simp] theorem rejectInvalid_ctrWrap (s : State) : (rejectInvalid s).ctrWrap = s.ctrWrap := rfl
@[simp] theorem rejectInvalid_errBus (s : State) : (rejectInvalid s).errBus = s.errBus := rfl
@[simp] theorem rejectInvalid_key (s : State) : (rejectInvalid s).key = s.key := rfl
@[simp] theorem rejectInvalid_state (s : State) : (rejectInvalid s).state = s.state := rfl
@[simp] theorem rejectInvalid_ks (s : State) : (rejectInvalid s).ks = s.ks := rfl
@[simp] theorem rejectInvalid_nonce (s : State) : (rejectInvalid s).nonce = s.nonce := rfl
@[simp] theorem rejectInvalid_ctr (s : State) : (rejectInvalid s).ctr = s.ctr := rfl
@[simp] theorem rejectInvalid_lutTable (s : State) : (rejectInvalid s).lutTable = s.lutTable := rfl
@[simp] theorem rejectInvalid_lutIndex (s : State) : (rejectInvalid s).lutIndex = s.lutIndex := rfl
@[simp] theorem rejectInvalid_rk (s : State) : (rejectInvalid s).rk = s.rk := rfl
@[simp] theorem rejectInvalid_pend (s : State) : (rejectInvalid s).pend = s.pend := rfl
@[simp] theorem rejectInvalid_rst (s : State) : (rejectInvalid s).rst = s.rst := rfl
@[simp] theorem rejectInvalid_latency (s : State) : (rejectInvalid s).latency = s.latency := rfl
@[simp] theorem rejectInvalid_supply (s : State) : (rejectInvalid s).supply = s.supply := rfl
@[simp] theorem rejectInvalid_host (s : State) : (rejectInvalid s).host = s.host := rfl
end rejectInvalidFields

section rejectNoKeyFields
@[simp] theorem rejectNoKey_irqEn (s : State) : (rejectNoKey s).irqEn = s.irqEn := rfl
@[simp] theorem rejectNoKey_busy (s : State) : (rejectNoKey s).busy = s.busy := rfl
@[simp] theorem rejectNoKey_done (s : State) : (rejectNoKey s).done = true := rfl
@[simp] theorem rejectNoKey_keyValid (s : State) : (rejectNoKey s).keyValid = s.keyValid := rfl
@[simp] theorem rejectNoKey_errBusy (s : State) : (rejectNoKey s).errBusy = s.errBusy := rfl
@[simp] theorem rejectNoKey_errCmd (s : State) : (rejectNoKey s).errCmd = s.errCmd := rfl
@[simp] theorem rejectNoKey_errNokey (s : State) : (rejectNoKey s).errNokey = true := rfl
@[simp] theorem rejectNoKey_ctrWrap (s : State) : (rejectNoKey s).ctrWrap = s.ctrWrap := rfl
@[simp] theorem rejectNoKey_errBus (s : State) : (rejectNoKey s).errBus = s.errBus := rfl
@[simp] theorem rejectNoKey_key (s : State) : (rejectNoKey s).key = s.key := rfl
@[simp] theorem rejectNoKey_state (s : State) : (rejectNoKey s).state = s.state := rfl
@[simp] theorem rejectNoKey_ks (s : State) : (rejectNoKey s).ks = s.ks := rfl
@[simp] theorem rejectNoKey_nonce (s : State) : (rejectNoKey s).nonce = s.nonce := rfl
@[simp] theorem rejectNoKey_ctr (s : State) : (rejectNoKey s).ctr = s.ctr := rfl
@[simp] theorem rejectNoKey_lutTable (s : State) : (rejectNoKey s).lutTable = s.lutTable := rfl
@[simp] theorem rejectNoKey_lutIndex (s : State) : (rejectNoKey s).lutIndex = s.lutIndex := rfl
@[simp] theorem rejectNoKey_rk (s : State) : (rejectNoKey s).rk = s.rk := rfl
@[simp] theorem rejectNoKey_pend (s : State) : (rejectNoKey s).pend = s.pend := rfl
@[simp] theorem rejectNoKey_rst (s : State) : (rejectNoKey s).rst = s.rst := rfl
@[simp] theorem rejectNoKey_latency (s : State) : (rejectNoKey s).latency = s.latency := rfl
@[simp] theorem rejectNoKey_supply (s : State) : (rejectNoKey s).supply = s.supply := rfl
@[simp] theorem rejectNoKey_host (s : State) : (rejectNoKey s).host = s.host := rfl
end rejectNoKeyFields

section setErrBusyFields
@[simp] theorem setErrBusy_irqEn (s : State) : (setErrBusy s).irqEn = s.irqEn := rfl
@[simp] theorem setErrBusy_busy (s : State) : (setErrBusy s).busy = s.busy := rfl
@[simp] theorem setErrBusy_done (s : State) : (setErrBusy s).done = s.done := rfl
@[simp] theorem setErrBusy_keyValid (s : State) : (setErrBusy s).keyValid = s.keyValid := rfl
@[simp] theorem setErrBusy_errBusy (s : State) : (setErrBusy s).errBusy = true := rfl
@[simp] theorem setErrBusy_errCmd (s : State) : (setErrBusy s).errCmd = s.errCmd := rfl
@[simp] theorem setErrBusy_errNokey (s : State) : (setErrBusy s).errNokey = s.errNokey := rfl
@[simp] theorem setErrBusy_ctrWrap (s : State) : (setErrBusy s).ctrWrap = s.ctrWrap := rfl
@[simp] theorem setErrBusy_errBus (s : State) : (setErrBusy s).errBus = s.errBus := rfl
@[simp] theorem setErrBusy_key (s : State) : (setErrBusy s).key = s.key := rfl
@[simp] theorem setErrBusy_state (s : State) : (setErrBusy s).state = s.state := rfl
@[simp] theorem setErrBusy_ks (s : State) : (setErrBusy s).ks = s.ks := rfl
@[simp] theorem setErrBusy_nonce (s : State) : (setErrBusy s).nonce = s.nonce := rfl
@[simp] theorem setErrBusy_ctr (s : State) : (setErrBusy s).ctr = s.ctr := rfl
@[simp] theorem setErrBusy_lutTable (s : State) : (setErrBusy s).lutTable = s.lutTable := rfl
@[simp] theorem setErrBusy_lutIndex (s : State) : (setErrBusy s).lutIndex = s.lutIndex := rfl
@[simp] theorem setErrBusy_rk (s : State) : (setErrBusy s).rk = s.rk := rfl
@[simp] theorem setErrBusy_pend (s : State) : (setErrBusy s).pend = s.pend := rfl
@[simp] theorem setErrBusy_rst (s : State) : (setErrBusy s).rst = s.rst := rfl
@[simp] theorem setErrBusy_latency (s : State) : (setErrBusy s).latency = s.latency := rfl
@[simp] theorem setErrBusy_supply (s : State) : (setErrBusy s).supply = s.supply := rfl
@[simp] theorem setErrBusy_host (s : State) : (setErrBusy s).host = s.host := rfl
end setErrBusyFields

section setErrBusFields
@[simp] theorem setErrBus_irqEn (s : State) : (setErrBus s).irqEn = s.irqEn := rfl
@[simp] theorem setErrBus_busy (s : State) : (setErrBus s).busy = s.busy := rfl
@[simp] theorem setErrBus_done (s : State) : (setErrBus s).done = s.done := rfl
@[simp] theorem setErrBus_keyValid (s : State) : (setErrBus s).keyValid = s.keyValid := rfl
@[simp] theorem setErrBus_errBusy (s : State) : (setErrBus s).errBusy = s.errBusy := rfl
@[simp] theorem setErrBus_errCmd (s : State) : (setErrBus s).errCmd = s.errCmd := rfl
@[simp] theorem setErrBus_errNokey (s : State) : (setErrBus s).errNokey = s.errNokey := rfl
@[simp] theorem setErrBus_ctrWrap (s : State) : (setErrBus s).ctrWrap = s.ctrWrap := rfl
@[simp] theorem setErrBus_errBus (s : State) : (setErrBus s).errBus = true := rfl
@[simp] theorem setErrBus_key (s : State) : (setErrBus s).key = s.key := rfl
@[simp] theorem setErrBus_state (s : State) : (setErrBus s).state = s.state := rfl
@[simp] theorem setErrBus_ks (s : State) : (setErrBus s).ks = s.ks := rfl
@[simp] theorem setErrBus_nonce (s : State) : (setErrBus s).nonce = s.nonce := rfl
@[simp] theorem setErrBus_ctr (s : State) : (setErrBus s).ctr = s.ctr := rfl
@[simp] theorem setErrBus_lutTable (s : State) : (setErrBus s).lutTable = s.lutTable := rfl
@[simp] theorem setErrBus_lutIndex (s : State) : (setErrBus s).lutIndex = s.lutIndex := rfl
@[simp] theorem setErrBus_rk (s : State) : (setErrBus s).rk = s.rk := rfl
@[simp] theorem setErrBus_pend (s : State) : (setErrBus s).pend = s.pend := rfl
@[simp] theorem setErrBus_rst (s : State) : (setErrBus s).rst = s.rst := rfl
@[simp] theorem setErrBus_latency (s : State) : (setErrBus s).latency = s.latency := rfl
@[simp] theorem setErrBus_supply (s : State) : (setErrBus s).supply = s.supply := rfl
@[simp] theorem setErrBus_host (s : State) : (setErrBus s).host = s.host := rfl
end setErrBusFields

section mapStateFields
@[simp] theorem mapState_irqEn (f : Block → Block) (s : State) : (mapState f s).irqEn = s.irqEn := rfl
@[simp] theorem mapState_busy (f : Block → Block) (s : State) : (mapState f s).busy = s.busy := rfl
@[simp] theorem mapState_done (f : Block → Block) (s : State) : (mapState f s).done = s.done := rfl
@[simp] theorem mapState_keyValid (f : Block → Block) (s : State) : (mapState f s).keyValid = s.keyValid := rfl
@[simp] theorem mapState_errBusy (f : Block → Block) (s : State) : (mapState f s).errBusy = s.errBusy := rfl
@[simp] theorem mapState_errCmd (f : Block → Block) (s : State) : (mapState f s).errCmd = s.errCmd := rfl
@[simp] theorem mapState_errNokey (f : Block → Block) (s : State) : (mapState f s).errNokey = s.errNokey := rfl
@[simp] theorem mapState_ctrWrap (f : Block → Block) (s : State) : (mapState f s).ctrWrap = s.ctrWrap := rfl
@[simp] theorem mapState_errBus (f : Block → Block) (s : State) : (mapState f s).errBus = s.errBus := rfl
@[simp] theorem mapState_key (f : Block → Block) (s : State) : (mapState f s).key = s.key := rfl
@[simp] theorem mapState_state (f : Block → Block) (s : State) : (mapState f s).state = f s.state := rfl
@[simp] theorem mapState_ks (f : Block → Block) (s : State) : (mapState f s).ks = s.ks := rfl
@[simp] theorem mapState_nonce (f : Block → Block) (s : State) : (mapState f s).nonce = s.nonce := rfl
@[simp] theorem mapState_ctr (f : Block → Block) (s : State) : (mapState f s).ctr = s.ctr := rfl
@[simp] theorem mapState_lutTable (f : Block → Block) (s : State) : (mapState f s).lutTable = s.lutTable := rfl
@[simp] theorem mapState_lutIndex (f : Block → Block) (s : State) : (mapState f s).lutIndex = s.lutIndex := rfl
@[simp] theorem mapState_rk (f : Block → Block) (s : State) : (mapState f s).rk = s.rk := rfl
@[simp] theorem mapState_pend (f : Block → Block) (s : State) : (mapState f s).pend = s.pend := rfl
@[simp] theorem mapState_rst (f : Block → Block) (s : State) : (mapState f s).rst = s.rst := rfl
@[simp] theorem mapState_latency (f : Block → Block) (s : State) : (mapState f s).latency = s.latency := rfl
@[simp] theorem mapState_supply (f : Block → Block) (s : State) : (mapState f s).supply = s.supply := rfl
@[simp] theorem mapState_host (f : Block → Block) (s : State) : (mapState f s).host = s.host := rfl
end mapStateFields

section loadKeystreamFields
@[simp] theorem loadKeystream_irqEn (s : State) : (loadKeystream s).irqEn = s.irqEn := by unfold loadKeystream; rfl
@[simp] theorem loadKeystream_busy (s : State) : (loadKeystream s).busy = s.busy := by unfold loadKeystream; rfl
@[simp] theorem loadKeystream_done (s : State) : (loadKeystream s).done = s.done := by unfold loadKeystream; rfl
@[simp] theorem loadKeystream_keyValid (s : State) : (loadKeystream s).keyValid = s.keyValid := by unfold loadKeystream; rfl
@[simp] theorem loadKeystream_errBusy (s : State) : (loadKeystream s).errBusy = s.errBusy := by unfold loadKeystream; rfl
@[simp] theorem loadKeystream_errCmd (s : State) : (loadKeystream s).errCmd = s.errCmd := by unfold loadKeystream; rfl
@[simp] theorem loadKeystream_errNokey (s : State) : (loadKeystream s).errNokey = s.errNokey := by unfold loadKeystream; rfl
@[simp] theorem loadKeystream_ctrWrap (s : State) : (loadKeystream s).ctrWrap = s.ctrWrap := by unfold loadKeystream; rfl
@[simp] theorem loadKeystream_errBus (s : State) : (loadKeystream s).errBus = s.errBus := by unfold loadKeystream; rfl
@[simp] theorem loadKeystream_key (s : State) : (loadKeystream s).key = s.key := by unfold loadKeystream; rfl
@[simp] theorem loadKeystream_state (s : State) : (loadKeystream s).state = s.state := by unfold loadKeystream; rfl
@[simp] theorem loadKeystream_ks (s : State) : (loadKeystream s).ks = keystream s := by unfold loadKeystream; rfl
@[simp] theorem loadKeystream_nonce (s : State) : (loadKeystream s).nonce = s.nonce := by unfold loadKeystream; rfl
@[simp] theorem loadKeystream_ctr (s : State) : (loadKeystream s).ctr = s.ctr := by unfold loadKeystream; rfl
@[simp] theorem loadKeystream_lutTable (s : State) : (loadKeystream s).lutTable = s.lutTable := by unfold loadKeystream; rfl
@[simp] theorem loadKeystream_lutIndex (s : State) : (loadKeystream s).lutIndex = s.lutIndex := by unfold loadKeystream; rfl
@[simp] theorem loadKeystream_rk (s : State) : (loadKeystream s).rk = s.rk := by unfold loadKeystream; rfl
@[simp] theorem loadKeystream_pend (s : State) : (loadKeystream s).pend = s.pend := by unfold loadKeystream; rfl
@[simp] theorem loadKeystream_rst (s : State) : (loadKeystream s).rst = s.rst := by unfold loadKeystream; rfl
@[simp] theorem loadKeystream_latency (s : State) : (loadKeystream s).latency = s.latency := by unfold loadKeystream; rfl
@[simp] theorem loadKeystream_supply (s : State) : (loadKeystream s).supply = s.supply := by unfold loadKeystream; rfl
@[simp] theorem loadKeystream_host (s : State) : (loadKeystream s).host = s.host := by unfold loadKeystream; rfl
end loadKeystreamFields

section incrementCtrFields
@[simp] theorem incrementCtr_irqEn (s : State) : (incrementCtr s).irqEn = s.irqEn := rfl
@[simp] theorem incrementCtr_busy (s : State) : (incrementCtr s).busy = s.busy := rfl
@[simp] theorem incrementCtr_done (s : State) : (incrementCtr s).done = s.done := rfl
@[simp] theorem incrementCtr_keyValid (s : State) : (incrementCtr s).keyValid = s.keyValid := rfl
@[simp] theorem incrementCtr_errBusy (s : State) : (incrementCtr s).errBusy = s.errBusy := rfl
@[simp] theorem incrementCtr_errCmd (s : State) : (incrementCtr s).errCmd = s.errCmd := rfl
@[simp] theorem incrementCtr_errNokey (s : State) : (incrementCtr s).errNokey = s.errNokey := rfl
@[simp] theorem incrementCtr_ctrWrap (s : State) : (incrementCtr s).ctrWrap = (s.ctrWrap || ctrWraps s.ctr) := rfl
@[simp] theorem incrementCtr_errBus (s : State) : (incrementCtr s).errBus = s.errBus := rfl
@[simp] theorem incrementCtr_key (s : State) : (incrementCtr s).key = s.key := rfl
@[simp] theorem incrementCtr_state (s : State) : (incrementCtr s).state = s.state := rfl
@[simp] theorem incrementCtr_ks (s : State) : (incrementCtr s).ks = s.ks := rfl
@[simp] theorem incrementCtr_nonce (s : State) : (incrementCtr s).nonce = s.nonce := rfl
@[simp] theorem incrementCtr_ctr (s : State) : (incrementCtr s).ctr = s.ctr + 1 := rfl
@[simp] theorem incrementCtr_lutTable (s : State) : (incrementCtr s).lutTable = s.lutTable := rfl
@[simp] theorem incrementCtr_lutIndex (s : State) : (incrementCtr s).lutIndex = s.lutIndex := rfl
@[simp] theorem incrementCtr_rk (s : State) : (incrementCtr s).rk = s.rk := rfl
@[simp] theorem incrementCtr_pend (s : State) : (incrementCtr s).pend = s.pend := rfl
@[simp] theorem incrementCtr_rst (s : State) : (incrementCtr s).rst = s.rst := rfl
@[simp] theorem incrementCtr_latency (s : State) : (incrementCtr s).latency = s.latency := rfl
@[simp] theorem incrementCtr_supply (s : State) : (incrementCtr s).supply = s.supply := rfl
@[simp] theorem incrementCtr_host (s : State) : (incrementCtr s).host = s.host := rfl
end incrementCtrFields

section xorKeystreamFields
@[simp] theorem xorKeystream_irqEn (s : State) : (xorKeystream s).irqEn = s.irqEn := by unfold xorKeystream; rfl
@[simp] theorem xorKeystream_busy (s : State) : (xorKeystream s).busy = s.busy := by unfold xorKeystream; rfl
@[simp] theorem xorKeystream_done (s : State) : (xorKeystream s).done = s.done := by unfold xorKeystream; rfl
@[simp] theorem xorKeystream_keyValid (s : State) : (xorKeystream s).keyValid = s.keyValid := by unfold xorKeystream; rfl
@[simp] theorem xorKeystream_errBusy (s : State) : (xorKeystream s).errBusy = s.errBusy := by unfold xorKeystream; rfl
@[simp] theorem xorKeystream_errCmd (s : State) : (xorKeystream s).errCmd = s.errCmd := by unfold xorKeystream; rfl
@[simp] theorem xorKeystream_errNokey (s : State) : (xorKeystream s).errNokey = s.errNokey := by unfold xorKeystream; rfl
@[simp] theorem xorKeystream_ctrWrap (s : State) : (xorKeystream s).ctrWrap = s.ctrWrap := by unfold xorKeystream; rfl
@[simp] theorem xorKeystream_errBus (s : State) : (xorKeystream s).errBus = s.errBus := by unfold xorKeystream; rfl
@[simp] theorem xorKeystream_key (s : State) : (xorKeystream s).key = s.key := by unfold xorKeystream; rfl
@[simp] theorem xorKeystream_state (s : State) : (xorKeystream s).state = addRoundKey s.state s.ks := by unfold xorKeystream; rfl
@[simp] theorem xorKeystream_ks (s : State) : (xorKeystream s).ks = s.ks := by unfold xorKeystream; rfl
@[simp] theorem xorKeystream_nonce (s : State) : (xorKeystream s).nonce = s.nonce := by unfold xorKeystream; rfl
@[simp] theorem xorKeystream_ctr (s : State) : (xorKeystream s).ctr = s.ctr := by unfold xorKeystream; rfl
@[simp] theorem xorKeystream_lutTable (s : State) : (xorKeystream s).lutTable = s.lutTable := by unfold xorKeystream; rfl
@[simp] theorem xorKeystream_lutIndex (s : State) : (xorKeystream s).lutIndex = s.lutIndex := by unfold xorKeystream; rfl
@[simp] theorem xorKeystream_rk (s : State) : (xorKeystream s).rk = s.rk := by unfold xorKeystream; rfl
@[simp] theorem xorKeystream_pend (s : State) : (xorKeystream s).pend = s.pend := by unfold xorKeystream; rfl
@[simp] theorem xorKeystream_rst (s : State) : (xorKeystream s).rst = s.rst := by unfold xorKeystream; rfl
@[simp] theorem xorKeystream_latency (s : State) : (xorKeystream s).latency = s.latency := by unfold xorKeystream; rfl
@[simp] theorem xorKeystream_supply (s : State) : (xorKeystream s).supply = s.supply := by unfold xorKeystream; rfl
@[simp] theorem xorKeystream_host (s : State) : (xorKeystream s).host = s.host := by unfold xorKeystream; rfl
end xorKeystreamFields

section acceptFields
@[simp] theorem accept_irqEn (i : Instr) (s : State) : (accept i s).irqEn = s.irqEn := rfl
@[simp] theorem accept_busy (i : Instr) (s : State) : (accept i s).busy = true := rfl
@[simp] theorem accept_done (i : Instr) (s : State) : (accept i s).done = false := rfl
@[simp] theorem accept_keyValid (i : Instr) (s : State) : (accept i s).keyValid = s.keyValid := rfl
@[simp] theorem accept_errBusy (i : Instr) (s : State) : (accept i s).errBusy = s.errBusy := rfl
@[simp] theorem accept_errCmd (i : Instr) (s : State) : (accept i s).errCmd = s.errCmd := rfl
@[simp] theorem accept_errNokey (i : Instr) (s : State) : (accept i s).errNokey = s.errNokey := rfl
@[simp] theorem accept_ctrWrap (i : Instr) (s : State) : (accept i s).ctrWrap = s.ctrWrap := rfl
@[simp] theorem accept_errBus (i : Instr) (s : State) : (accept i s).errBus = s.errBus := rfl
@[simp] theorem accept_key (i : Instr) (s : State) : (accept i s).key = s.key := rfl
@[simp] theorem accept_state (i : Instr) (s : State) : (accept i s).state = s.state := rfl
@[simp] theorem accept_ks (i : Instr) (s : State) : (accept i s).ks = s.ks := rfl
@[simp] theorem accept_nonce (i : Instr) (s : State) : (accept i s).nonce = s.nonce := rfl
@[simp] theorem accept_ctr (i : Instr) (s : State) : (accept i s).ctr = s.ctr := rfl
@[simp] theorem accept_lutTable (i : Instr) (s : State) : (accept i s).lutTable = s.lutTable := rfl
@[simp] theorem accept_lutIndex (i : Instr) (s : State) : (accept i s).lutIndex = s.lutIndex := rfl
@[simp] theorem accept_rk (i : Instr) (s : State) : (accept i s).rk = s.rk := rfl
@[simp] theorem accept_pend (i : Instr) (s : State) : (accept i s).pend = some i := rfl
@[simp] theorem accept_rst (i : Instr) (s : State) : (accept i s).rst = s.rst := rfl
@[simp] theorem accept_latency (i : Instr) (s : State) : (accept i s).latency = (nextLatency i.op s.supply).1 := rfl
@[simp] theorem accept_supply (i : Instr) (s : State) : (accept i s).supply = (nextLatency i.op s.supply).2 := rfl
@[simp] theorem accept_host (i : Instr) (s : State) : (accept i s).host = s.host := rfl
end acceptFields

section clearFlagsFields
@[simp] theorem clearFlags_irqEn (v : Word) (s : State) : (clearFlags v s).irqEn = s.irqEn := rfl
@[simp] theorem clearFlags_busy (v : Word) (s : State) : (clearFlags v s).busy = s.busy := rfl
@[simp] theorem clearFlags_done (v : Word) (s : State) : (clearFlags v s).done = (s.done && !v.getLsbD 1) := rfl
@[simp] theorem clearFlags_keyValid (v : Word) (s : State) : (clearFlags v s).keyValid = s.keyValid := rfl
@[simp] theorem clearFlags_errBusy (v : Word) (s : State) : (clearFlags v s).errBusy = (s.errBusy && !v.getLsbD 3) := rfl
@[simp] theorem clearFlags_errCmd (v : Word) (s : State) : (clearFlags v s).errCmd = (s.errCmd && !v.getLsbD 4) := rfl
@[simp] theorem clearFlags_errNokey (v : Word) (s : State) : (clearFlags v s).errNokey = (s.errNokey && !v.getLsbD 5) := rfl
@[simp] theorem clearFlags_ctrWrap (v : Word) (s : State) : (clearFlags v s).ctrWrap = (s.ctrWrap && !v.getLsbD 6) := rfl
@[simp] theorem clearFlags_errBus (v : Word) (s : State) : (clearFlags v s).errBus = (s.errBus && !v.getLsbD 7) := rfl
@[simp] theorem clearFlags_key (v : Word) (s : State) : (clearFlags v s).key = s.key := rfl
@[simp] theorem clearFlags_state (v : Word) (s : State) : (clearFlags v s).state = s.state := rfl
@[simp] theorem clearFlags_ks (v : Word) (s : State) : (clearFlags v s).ks = s.ks := rfl
@[simp] theorem clearFlags_nonce (v : Word) (s : State) : (clearFlags v s).nonce = s.nonce := rfl
@[simp] theorem clearFlags_ctr (v : Word) (s : State) : (clearFlags v s).ctr = s.ctr := rfl
@[simp] theorem clearFlags_lutTable (v : Word) (s : State) : (clearFlags v s).lutTable = s.lutTable := rfl
@[simp] theorem clearFlags_lutIndex (v : Word) (s : State) : (clearFlags v s).lutIndex = s.lutIndex := rfl
@[simp] theorem clearFlags_rk (v : Word) (s : State) : (clearFlags v s).rk = s.rk := rfl
@[simp] theorem clearFlags_pend (v : Word) (s : State) : (clearFlags v s).pend = s.pend := rfl
@[simp] theorem clearFlags_rst (v : Word) (s : State) : (clearFlags v s).rst = s.rst := rfl
@[simp] theorem clearFlags_latency (v : Word) (s : State) : (clearFlags v s).latency = s.latency := rfl
@[simp] theorem clearFlags_supply (v : Word) (s : State) : (clearFlags v s).supply = s.supply := rfl
@[simp] theorem clearFlags_host (v : Word) (s : State) : (clearFlags v s).host = s.host := rfl
end clearFlagsFields

section passTurnFields
@[simp] theorem passTurn_irqEn (s : State) : (passTurn s).irqEn = s.irqEn := rfl
@[simp] theorem passTurn_busy (s : State) : (passTurn s).busy = s.busy := rfl
@[simp] theorem passTurn_done (s : State) : (passTurn s).done = s.done := rfl
@[simp] theorem passTurn_keyValid (s : State) : (passTurn s).keyValid = s.keyValid := rfl
@[simp] theorem passTurn_errBusy (s : State) : (passTurn s).errBusy = s.errBusy := rfl
@[simp] theorem passTurn_errCmd (s : State) : (passTurn s).errCmd = s.errCmd := rfl
@[simp] theorem passTurn_errNokey (s : State) : (passTurn s).errNokey = s.errNokey := rfl
@[simp] theorem passTurn_ctrWrap (s : State) : (passTurn s).ctrWrap = s.ctrWrap := rfl
@[simp] theorem passTurn_errBus (s : State) : (passTurn s).errBus = s.errBus := rfl
@[simp] theorem passTurn_key (s : State) : (passTurn s).key = s.key := rfl
@[simp] theorem passTurn_state (s : State) : (passTurn s).state = s.state := rfl
@[simp] theorem passTurn_ks (s : State) : (passTurn s).ks = s.ks := rfl
@[simp] theorem passTurn_nonce (s : State) : (passTurn s).nonce = s.nonce := rfl
@[simp] theorem passTurn_ctr (s : State) : (passTurn s).ctr = s.ctr := rfl
@[simp] theorem passTurn_lutTable (s : State) : (passTurn s).lutTable = s.lutTable := rfl
@[simp] theorem passTurn_lutIndex (s : State) : (passTurn s).lutIndex = s.lutIndex := rfl
@[simp] theorem passTurn_rk (s : State) : (passTurn s).rk = s.rk := rfl
@[simp] theorem passTurn_pend (s : State) : (passTurn s).pend = s.pend := rfl
@[simp] theorem passTurn_rst (s : State) : (passTurn s).rst = s.rst := rfl
@[simp] theorem passTurn_latency (s : State) : (passTurn s).latency = s.latency - 1 := rfl
@[simp] theorem passTurn_supply (s : State) : (passTurn s).supply = s.supply := rfl
@[simp] theorem passTurn_host (s : State) : (passTurn s).host = s.host := rfl
end passTurnFields

section nextLineFields
@[simp] theorem nextLine_irqEn (s : State) : (nextLine s).irqEn = s.irqEn := rfl
@[simp] theorem nextLine_busy (s : State) : (nextLine s).busy = s.busy := rfl
@[simp] theorem nextLine_done (s : State) : (nextLine s).done = s.done := rfl
@[simp] theorem nextLine_keyValid (s : State) : (nextLine s).keyValid = s.keyValid := rfl
@[simp] theorem nextLine_errBusy (s : State) : (nextLine s).errBusy = s.errBusy := rfl
@[simp] theorem nextLine_errCmd (s : State) : (nextLine s).errCmd = s.errCmd := rfl
@[simp] theorem nextLine_errNokey (s : State) : (nextLine s).errNokey = s.errNokey := rfl
@[simp] theorem nextLine_ctrWrap (s : State) : (nextLine s).ctrWrap = s.ctrWrap := rfl
@[simp] theorem nextLine_errBus (s : State) : (nextLine s).errBus = s.errBus := rfl
@[simp] theorem nextLine_key (s : State) : (nextLine s).key = s.key := rfl
@[simp] theorem nextLine_state (s : State) : (nextLine s).state = s.state := rfl
@[simp] theorem nextLine_ks (s : State) : (nextLine s).ks = s.ks := rfl
@[simp] theorem nextLine_nonce (s : State) : (nextLine s).nonce = s.nonce := rfl
@[simp] theorem nextLine_ctr (s : State) : (nextLine s).ctr = s.ctr := rfl
@[simp] theorem nextLine_lutTable (s : State) : (nextLine s).lutTable = s.lutTable := rfl
@[simp] theorem nextLine_lutIndex (s : State) : (nextLine s).lutIndex = s.lutIndex := rfl
@[simp] theorem nextLine_rk (s : State) : (nextLine s).rk = s.rk := rfl
@[simp] theorem nextLine_pend (s : State) : (nextLine s).pend = s.pend := rfl
@[simp] theorem nextLine_rst (s : State) : (nextLine s).rst = s.rst := rfl
@[simp] theorem nextLine_latency (s : State) : (nextLine s).latency = s.latency := rfl
@[simp] theorem nextLine_supply (s : State) : (nextLine s).supply = s.supply := rfl
@[simp] theorem nextLine_host (s : State) : (nextLine s).host = { s.host with pc := s.host.pc + 1 } := rfl
end nextLineFields

section keepNameFields
@[simp] theorem keepName_irqEn (n : Nat) (v : Word) (s : State) : (keepName n v s).irqEn = s.irqEn := rfl
@[simp] theorem keepName_busy (n : Nat) (v : Word) (s : State) : (keepName n v s).busy = s.busy := rfl
@[simp] theorem keepName_done (n : Nat) (v : Word) (s : State) : (keepName n v s).done = s.done := rfl
@[simp] theorem keepName_keyValid (n : Nat) (v : Word) (s : State) : (keepName n v s).keyValid = s.keyValid := rfl
@[simp] theorem keepName_errBusy (n : Nat) (v : Word) (s : State) : (keepName n v s).errBusy = s.errBusy := rfl
@[simp] theorem keepName_errCmd (n : Nat) (v : Word) (s : State) : (keepName n v s).errCmd = s.errCmd := rfl
@[simp] theorem keepName_errNokey (n : Nat) (v : Word) (s : State) : (keepName n v s).errNokey = s.errNokey := rfl
@[simp] theorem keepName_ctrWrap (n : Nat) (v : Word) (s : State) : (keepName n v s).ctrWrap = s.ctrWrap := rfl
@[simp] theorem keepName_errBus (n : Nat) (v : Word) (s : State) : (keepName n v s).errBus = s.errBus := rfl
@[simp] theorem keepName_key (n : Nat) (v : Word) (s : State) : (keepName n v s).key = s.key := rfl
@[simp] theorem keepName_state (n : Nat) (v : Word) (s : State) : (keepName n v s).state = s.state := rfl
@[simp] theorem keepName_ks (n : Nat) (v : Word) (s : State) : (keepName n v s).ks = s.ks := rfl
@[simp] theorem keepName_nonce (n : Nat) (v : Word) (s : State) : (keepName n v s).nonce = s.nonce := rfl
@[simp] theorem keepName_ctr (n : Nat) (v : Word) (s : State) : (keepName n v s).ctr = s.ctr := rfl
@[simp] theorem keepName_lutTable (n : Nat) (v : Word) (s : State) : (keepName n v s).lutTable = s.lutTable := rfl
@[simp] theorem keepName_lutIndex (n : Nat) (v : Word) (s : State) : (keepName n v s).lutIndex = s.lutIndex := rfl
@[simp] theorem keepName_rk (n : Nat) (v : Word) (s : State) : (keepName n v s).rk = s.rk := rfl
@[simp] theorem keepName_pend (n : Nat) (v : Word) (s : State) : (keepName n v s).pend = s.pend := rfl
@[simp] theorem keepName_rst (n : Nat) (v : Word) (s : State) : (keepName n v s).rst = s.rst := rfl
@[simp] theorem keepName_latency (n : Nat) (v : Word) (s : State) : (keepName n v s).latency = s.latency := rfl
@[simp] theorem keepName_supply (n : Nat) (v : Word) (s : State) : (keepName n v s).supply = s.supply := rfl
@[simp] theorem keepName_host (n : Nat) (v : Word) (s : State) : (keepName n v s).host = { s.host with names := setName n v s.host.names } := rfl
end keepNameFields

@[simp] theorem applyReset_irqEn (s : State) : (applyReset s).irqEn = false := rfl
@[simp] theorem applyReset_busy (s : State) : (applyReset s).busy = false := rfl
@[simp] theorem applyReset_done (s : State) : (applyReset s).done = false := rfl
@[simp] theorem applyReset_keyValid (s : State) : (applyReset s).keyValid = false := rfl
@[simp] theorem applyReset_errBusy (s : State) : (applyReset s).errBusy = false := rfl
@[simp] theorem applyReset_errCmd (s : State) : (applyReset s).errCmd = false := rfl
@[simp] theorem applyReset_errNokey (s : State) : (applyReset s).errNokey = false := rfl
@[simp] theorem applyReset_ctrWrap (s : State) : (applyReset s).ctrWrap = false := rfl
@[simp] theorem applyReset_errBus (s : State) : (applyReset s).errBus = false := rfl
@[simp] theorem applyReset_key (s : State) : (applyReset s).key = Vector.replicate 16 0 := rfl
@[simp] theorem applyReset_state (s : State) : (applyReset s).state = Vector.replicate 16 0 := rfl
@[simp] theorem applyReset_ks (s : State) : (applyReset s).ks = Vector.replicate 16 0 := rfl
@[simp] theorem applyReset_nonce (s : State) : (applyReset s).nonce = Vector.replicate 8 0 := rfl
@[simp] theorem applyReset_ctr (s : State) : (applyReset s).ctr = 1 := rfl
@[simp] theorem applyReset_lutTable (s : State) : (applyReset s).lutTable = 0 := rfl
@[simp] theorem applyReset_lutIndex (s : State) : (applyReset s).lutIndex = 0 := rfl
@[simp] theorem applyReset_pend (s : State) : (applyReset s).pend = none := rfl
@[simp] theorem applyReset_rst (s : State) : (applyReset s).rst = false := rfl
@[simp] theorem applyReset_latency (s : State) : (applyReset s).latency = 0 := rfl
@[simp] theorem applyReset_host (s : State) : (applyReset s).host = s.host := rfl

/-- A response is received by the host alone; the supply is drawn from only on an error response. -/
theorem receive_eq (r : BusResp) (s : State) :
    receive r s = { s with supply := (receive r s).supply, host := (receive r s).host } := by
  unfold receive; split <;> rfl

@[simp] theorem receive_irqEn (r : BusResp) (s : State) : (receive r s).irqEn = s.irqEn := by
  unfold receive; split <;> rfl
@[simp] theorem receive_busy (r : BusResp) (s : State) : (receive r s).busy = s.busy := by
  unfold receive; split <;> rfl
@[simp] theorem receive_done (r : BusResp) (s : State) : (receive r s).done = s.done := by
  unfold receive; split <;> rfl
@[simp] theorem receive_keyValid (r : BusResp) (s : State) : (receive r s).keyValid = s.keyValid := by
  unfold receive; split <;> rfl
@[simp] theorem receive_errBusy (r : BusResp) (s : State) : (receive r s).errBusy = s.errBusy := by
  unfold receive; split <;> rfl
@[simp] theorem receive_errCmd (r : BusResp) (s : State) : (receive r s).errCmd = s.errCmd := by
  unfold receive; split <;> rfl
@[simp] theorem receive_errNokey (r : BusResp) (s : State) : (receive r s).errNokey = s.errNokey := by
  unfold receive; split <;> rfl
@[simp] theorem receive_ctrWrap (r : BusResp) (s : State) : (receive r s).ctrWrap = s.ctrWrap := by
  unfold receive; split <;> rfl
@[simp] theorem receive_errBus (r : BusResp) (s : State) : (receive r s).errBus = s.errBus := by
  unfold receive; split <;> rfl
@[simp] theorem receive_key (r : BusResp) (s : State) : (receive r s).key = s.key := by
  unfold receive; split <;> rfl
@[simp] theorem receive_state (r : BusResp) (s : State) : (receive r s).state = s.state := by
  unfold receive; split <;> rfl
@[simp] theorem receive_ks (r : BusResp) (s : State) : (receive r s).ks = s.ks := by
  unfold receive; split <;> rfl
@[simp] theorem receive_nonce (r : BusResp) (s : State) : (receive r s).nonce = s.nonce := by
  unfold receive; split <;> rfl
@[simp] theorem receive_ctr (r : BusResp) (s : State) : (receive r s).ctr = s.ctr := by
  unfold receive; split <;> rfl
@[simp] theorem receive_lutTable (r : BusResp) (s : State) : (receive r s).lutTable = s.lutTable := by
  unfold receive; split <;> rfl
@[simp] theorem receive_lutIndex (r : BusResp) (s : State) : (receive r s).lutIndex = s.lutIndex := by
  unfold receive; split <;> rfl
@[simp] theorem receive_rk (r : BusResp) (s : State) : (receive r s).rk = s.rk := by
  unfold receive; split <;> rfl
@[simp] theorem receive_pend (r : BusResp) (s : State) : (receive r s).pend = s.pend := by
  unfold receive; split <;> rfl
@[simp] theorem receive_rst (r : BusResp) (s : State) : (receive r s).rst = s.rst := by
  unfold receive; split <;> rfl
@[simp] theorem receive_latency (r : BusResp) (s : State) : (receive r s).latency = s.latency := by
  unfold receive; split <;> rfl

@[simp] theorem receive_prog (r : BusResp) (s : State) : (receive r s).host.prog = s.host.prog := by
  unfold receive; split <;> rfl
@[simp] theorem receive_pc (r : BusResp) (s : State) : (receive r s).host.pc = s.host.pc := by
  unfold receive; split <;> rfl
@[simp] theorem receive_names (r : BusResp) (s : State) : (receive r s).host.names = s.host.names := by
  unfold receive; split <;> rfl
@[simp] theorem receive_resp (r : BusResp) (s : State) : (receive r s).host.resp = some r := by
  unfold receive; split <;> rfl
theorem receive_ok (r : BusResp) (s : State) (h : r.error = false) :
    receive r s = { s with host := { s.host with resp := some r } } := by
  unfold receive; rw [if_neg (by simp [h])]

end Sys2Proof.Machine
end

