-- ==== Sys2Proof/Laws/Bus.lean ====
section
/-! SUPPORT. What an offset reaches, and everything a bus access can do (20_memory.md R60, R61). -/

namespace Sys2Proof.Machine

@[simp] theorem ofOffset_offset (r : Reg) : Reg.ofOffset r.offset = some r := by
  cases r with
  | id | ctrl | status | cmd | ctrHi | ctrLo | lutAddr | lutData => rfl
  | key j => revert j; decide
  | state j => revert j; decide
  | ks j => revert j; decide
  | nonce j => revert j; decide
  | rk i => revert i; decide

@[simp] theorem offset_mod_four (r : Reg) : r.offset % 4 = 0 := by
  cases r <;> simp only [Reg.offset] <;> omega

theorem offset_lt (r : Reg) : r.offset < 0x1B0 := by
  cases r <;> simp only [Reg.offset] <;> omega

@[simp] theorem busTarget_offset (r : Reg) : busTarget 4 r.offset = some r := by
  simp [busTarget]

/-- The 128 word offsets of the window: each names the register whose offset it is, or is reserved (R20, R21). -/
theorem ofOffset_window : ∀ k : Fin 128,
    (Reg.ofOffset (4 * k.val)).map Reg.offset = some (4 * k.val) ∨
      Reg.ofOffset (4 * k.val) = none ∧ ((0x058 ≤ 4 * k.val ∧ 4 * k.val < 0x100) ∨ 0x1B0 ≤ 4 * k.val) := by
  decide

theorem ofOffset_beyond {off : Nat} (h : 0x1B0 ≤ off) : Reg.ofOffset off = none := by
  unfold Reg.ofOffset
  iterate 4 rw [if_neg (by omega)]
  iterate 4 rw [dif_neg (by omega)]
  iterate 4 rw [if_neg (by omega)]
  rw [if_neg (by omega), dif_neg (by omega)]

/-- An aligned offset names a register exactly when it is that register's offset (R20). -/
theorem ofOffset_eq_some {off : Nat} {r : Reg} (h4 : off % 4 = 0) : Reg.ofOffset off = some r ↔ off = r.offset := by
  refine ⟨fun h => ?_, fun h => h ▸ ofOffset_offset r⟩
  by_cases hb : 0x1B0 ≤ off
  · simp [ofOffset_beyond hb] at h
  · have w := ofOffset_window ⟨off / 4, by omega⟩
    have e : 4 * (off / 4) = off := by omega
    simpa [e, h, eq_comm] using w

/-- An aligned offset names no register exactly when it is reserved or beyond the window (R21). -/
theorem ofOffset_eq_none {off : Nat} (h4 : off % 4 = 0) :
    Reg.ofOffset off = none ↔ (0x058 ≤ off ∧ off < 0x100) ∨ 0x1B0 ≤ off := by
  by_cases hb : 0x1B0 ≤ off
  · simp [ofOffset_beyond hb, hb]
  · have w := ofOffset_window ⟨off / 4, by omega⟩
    have e : 4 * (off / 4) = off := by omega
    cases h : Reg.ofOffset off with
    | none => simpa [e, h] using w
    | some r =>
      have := (ofOffset_eq_some h4).1 h
      subst this
      cases r <;> simp only [Reg.offset] <;> simp <;> omega

/-- An access reaches register r exactly when it is 32 bits wide at r's offset (R60 to R64). -/
theorem busTarget_eq_some {size off : Nat} {r : Reg} : busTarget size off = some r ↔ size = 4 ∧ off = r.offset := by
  by_cases hs : size = 4
  · by_cases h4 : off % 4 = 0
    · simp [busTarget, hs, h4, ofOffset_eq_some]
    · have : off ≠ r.offset := fun e => h4 (e ▸ offset_mod_four r)
      simp [busTarget, hs, h4, this]
  · simp [busTarget, hs]

/-- An access reaches no register exactly when it is of another width, misaligned, reserved or beyond the window. -/
theorem busTarget_eq_none {size off : Nat} :
    busTarget size off = none ↔
      size ≠ 4 ∨ off % 4 ≠ 0 ∨ (0x058 ≤ off ∧ off < 0x100) ∨ 0x1B0 ≤ off := by
  by_cases hs : size = 4
  · by_cases h4 : off % 4 = 0
    · simp [busTarget, hs, h4, ofOffset_eq_none]
    · simp [busTarget, hs, h4]
  · simp [busTarget, hs]

theorem busRead_none {size off : Nat} (s : State) (h : busTarget size off = none) :
    busRead size off s = (errorResp, setErrBus s) := by
  simp [busRead, h]

theorem busRead_some {size off : Nat} {r : Reg} (s : State) (h : busTarget size off = some r) :
    busRead size off s =
      if s.busy && r.readHazard then (okResp (drawWord s).1, (drawWord s).2) else (okResp (readReg s r), s) := by
  simp [busRead, h]

theorem busWrite_none {size off : Nat} (v : Word) (s : State) (h : busTarget size off = none) :
    busWrite size off v s = (errorResp, setErrBus s) := by
  simp [busWrite, h]

theorem busWrite_some {size off : Nat} {r : Reg} (v : Word) (s : State) (h : busTarget size off = some r) :
    busWrite size off v s =
      if s.busy && r.writeHazard then (okResp 0, setErrBusy s) else (okResp 0, writeReg v s r) := by
  simp [busWrite, h]

/-- Everything a read can do to the state: nothing, ERR_BUS, or one more draw. -/
theorem busRead_state_cases (size off : Nat) (s : State) :
    (busRead size off s).2 = s ∨ (busRead size off s).2 = setErrBus s ∨
      (s.busy = true ∧ (busRead size off s).2 = (drawWord s).2) := by
  cases h : busTarget size off with
  | none => simp [busRead_none s h]
  | some r =>
    rw [busRead_some s h]
    split
    · simp_all
    · simp

/-- Everything a write can do to the state: ERR_BUS, ERR_BUSY, or the register's own write while it is not dropped. -/
theorem busWrite_state_cases (size off : Nat) (v : Word) (s : State) :
    (busTarget size off = none ∧ (busWrite size off v s).2 = setErrBus s) ∨
    (∃ r, busTarget size off = some r ∧ s.busy = true ∧ r.writeHazard = true ∧ (busWrite size off v s).2 = setErrBusy s) ∨
    (∃ r, busTarget size off = some r ∧ (s.busy = false ∨ r.writeHazard = false) ∧
      (busWrite size off v s).2 = writeReg v s r) := by
  cases h : busTarget size off with
  | none => simp [busWrite_none v s h]
  | some r =>
    rw [busWrite_some v s h]
    by_cases hb : s.busy = true <;> by_cases hw : r.writeHazard = true <;> simp [hb, hw]

/-- A write to CMD while BUSY = 0 rejects the word or accepts the command (30_encoding.md R95). -/
theorem writeCmd_cases (v : Word) (s : State) :
    (s.busy = true ∧ writeCmd v s = setErrBusy s) ∨
    (s.busy = false ∧ (∃ e, decode v = .error e) ∧ writeCmd v s = rejectInvalid s) ∨
    (∃ i, s.busy = false ∧ decode v = .ok i ∧ i.needsKey = true ∧ s.keyValid = false ∧ writeCmd v s = rejectNoKey s) ∨
    (∃ i, s.busy = false ∧ decode v = .ok i ∧ (i.needsKey = true → s.keyValid = true) ∧ writeCmd v s = accept i s) := by
  unfold writeCmd
  by_cases hb : s.busy = true
  · simp [hb]
  · cases hd : decode v with
    | error e => simp [hb]
    | ok i => by_cases hk : i.needsKey = true <;> by_cases hv : s.keyValid = true <;> simp [hb, hk, hv]

end Sys2Proof.Machine
end

