-- ==== Sys2Proof/Laws/Step.lean ====
section
/-! SUPPORT. What a step can do: one inversion lemma for the step, one for the host's turn, one equation for each
command. -/

namespace Sys2Proof.Machine

open Host (Outcome)

/-- A step that goes on is a reset, the completion of the command in PEND, or the host's turn. -/
theorem step_next_cases {s t : State} (h : step s = .next t) :
    (s.rst = true ∧ t = applyReset s) ∨
    (s.rst = false ∧ ∃ i, engineCommand s = some i ∧ exec i s = .next t) ∨
    (s.rst = false ∧ engineCommand s = none ∧ hostTurn s = .next t) := by
  unfold step at h
  cases hr : s.rst
  · simp only [hr, Bool.false_eq_true, if_false] at h
    cases he : engineCommand s with
    | none => simp_all
    | some i => simp_all
  · simp only [hr, if_true, Outcome.next.injEq] at h
    simp [h]

theorem engineCommand_eq_some {s : State} {i : Instr} :
    engineCommand s = some i ↔ s.busy = true ∧ s.latency = 0 ∧ s.pend = some i := by
  unfold engineCommand
  split <;> simp_all

theorem engineCommand_eq_none {s : State} :
    engineCommand s = none ↔ s.busy = false ∨ s.latency ≠ 0 ∨ s.pend = none := by
  unfold engineCommand
  by_cases hb : s.busy = true <;> by_cases hl : s.latency = 0 <;> simp [hb, hl]

/-- A `jnz` that goes on changes only the place in the program. -/
theorem hostLine_jnz_next {name l : Nat} {s t : State} (h : hostLine (.jnz name l) s = .next t) :
    ∃ place, t = { s with host := { s.host with pc := place } } := by
  unfold hostLine at h
  cases hl : lookupName name s.host.names with
  | none => simp [hl] at h
  | some v =>
    by_cases hv : v = 0
    · simp only [hl, if_pos hv, Outcome.next.injEq] at h
      exact ⟨_, h.symm⟩
    · cases hf : findLabel l 0 s.host.prog with
      | none => simp only [hl, if_neg hv, hf, reduceCtorEq] at h
      | some place =>
        simp only [hl, if_neg hv, hf, Outcome.next.injEq] at h
        exact ⟨place, h.symm⟩

/-- A host turn that goes on is idle, one bus access, or a line without an access. -/
theorem hostTurn_next_cases {s t : State} (h : hostTurn s = .next t) :
    (hostNext s = none ∧ t = passTurn s) ∨
    (∃ size off name, hostNext s = some (.rd size off name) ∧ off < 0x200 ∧
      t = nextLine (keepName name (busRead size off (passTurn s)).1.data
        (receive (busRead size off (passTurn s)).1 (busRead size off (passTurn s)).2))) ∨
    (∃ size off v, hostNext s = some (.wr size off v) ∧ off < 0x200 ∧
      t = nextLine (receive (busWrite size off v (passTurn s)).1 (busWrite size off v (passTurn s)).2)) ∨
    (∃ off mask val, hostNext s = some (.poll off mask val) ∧ off < 0x200 ∧
      ((busRead 4 off (passTurn s)).1.data &&& mask = val ∧
          t = nextLine (receive (busRead 4 off (passTurn s)).1 (busRead 4 off (passTurn s)).2) ∨
        (busRead 4 off (passTurn s)).1.data &&& mask ≠ val ∧
          t = receive (busRead 4 off (passTurn s)).1 (busRead 4 off (passTurn s)).2)) ∨
    ((∃ l, hostNext s = some (.label l) ∨ ∃ name, hostNext s = some (.jnz name l)) ∧
      ∃ place, t = { passTurn s with host := { s.host with pc := place } }) ∨
    (hostNext s = some .rst ∧ t = { nextLine (passTurn s) with rst := true }) := by
  unfold hostTurn at h
  cases hn : hostNext s with
  | none => simp_all
  | some op =>
    simp only [hn] at h
    cases op with
    | rd size off name =>
      by_cases hw : Config.windowBytes ≤ off
      · simp [hostLine, hw] at h
      · simp only [hostLine, if_neg hw, Outcome.next.injEq] at h
        exact .inr (.inl ⟨size, off, name, rfl, Nat.lt_of_not_le hw, h.symm⟩)
    | wr size off v =>
      by_cases hw : Config.windowBytes ≤ off
      · simp [hostLine, hw] at h
      · simp only [hostLine, if_neg hw, Outcome.next.injEq] at h
        exact .inr (.inr (.inl ⟨size, off, v, rfl, Nat.lt_of_not_le hw, h.symm⟩))
    | poll off mask val =>
      by_cases hw : Config.windowBytes ≤ off
      · simp [hostLine, hw] at h
      · refine .inr (.inr (.inr (.inl ⟨off, mask, val, rfl, Nat.lt_of_not_le hw, ?_⟩)))
        by_cases hv : (busRead 4 off (passTurn s)).1.data &&& mask = val
        · simp only [hostLine, if_neg hw, if_pos hv, Outcome.next.injEq] at h
          exact .inl ⟨hv, h.symm⟩
        · simp only [hostLine, if_neg hw, if_neg hv, Outcome.next.injEq] at h
          exact .inr ⟨hv, h.symm⟩
    | label l =>
      exact .inr (.inr (.inr (.inr (.inl ⟨⟨l, .inl rfl⟩, _, (Outcome.next.inj h).symm⟩))))
    | jnz name l =>
      refine .inr (.inr (.inr (.inr (.inl ⟨⟨l, .inr ⟨name, rfl⟩⟩, ?_⟩))))
      exact hostLine_jnz_next h
    | rst => exact .inr (.inr (.inr (.inr (.inr ⟨rfl, (Outcome.next.inj h).symm⟩))))

/-- What `completeWithKey` does in its two cases. -/
theorem completeWithKey_valid (f : State → State) {s : State} (h : s.keyValid = true) :
    completeWithKey f s = complete (f s) := by
  simp [completeWithKey, h]

theorem completeWithKey_invalid (f : State → State) {s : State} (h : s.keyValid = false) :
    completeWithKey f s = complete (rejectNoKey s) := by
  simp [completeWithKey, h]

/-- The state after a command's completion, as a function: every command answers a next state. -/
def afterCommand (i : Instr) (s : State) : State :=
  match exec i s with
  | .next t => t
  | .fault _ => s
  | .refused _ => s

/-- Every command answers a next state. -/
theorem exec_eq_next (i : Instr) (s : State) : exec i s = .next (afterCommand i s) := by
  cases i <;> rfl

end Sys2Proof.Machine
end

