-- ==== Sys2Proof/Laws/Exec.lean ====
section
/-! SUPPORT. Each command's completion as one equation, and one lemma that says everything a completion can do
(10_state.md R33, 30_encoding.md R97). -/

namespace Sys2Proof.Machine

open Host (Outcome)

theorem exec_nop (s : State) : exec .nop s = .next (complete s) := rfl

theorem exec_keyExpand (s : State) :
    exec .keyExpand s = .next (complete { s with rk := keyExpansion s.key, keyValid := true }) := rfl

theorem exec_encrypt (s : State) :
    exec .encrypt s = .next (completeWithKey (fun t => mapState (fun b => cipher b t.rk) t) s) := rfl

theorem exec_decrypt (s : State) :
    exec .decrypt s = .next (completeWithKey (fun t => mapState (fun b => invCipher b t.rk) t) s) := rfl

theorem exec_ctrGen (s : State) :
    exec .ctrGen s = .next (completeWithKey (fun t => incrementCtr (loadKeystream t)) s) := rfl

theorem exec_ctrXor (s : State) :
    exec .ctrXor s = .next (completeWithKey (fun t => incrementCtr (xorKeystream (loadKeystream t))) s) := rfl

theorem exec_subBytes (s : State) : exec .subBytes s = .next (complete (mapState subBytes s)) := rfl

theorem exec_invSubBytes (s : State) : exec .invSubBytes s = .next (complete (mapState invSubBytes s)) := rfl

theorem exec_shiftRows (s : State) : exec .shiftRows s = .next (complete (mapState shiftRows s)) := rfl

theorem exec_invShiftRows (s : State) : exec .invShiftRows s = .next (complete (mapState invShiftRows s)) := rfl

theorem exec_mixColumns (s : State) : exec .mixColumns s = .next (complete (mapState mixColumns s)) := rfl

theorem exec_invMixColumns (s : State) : exec .invMixColumns s = .next (complete (mapState invMixColumns s)) := rfl

theorem exec_addRoundKey (r : Fin 11) (s : State) :
    exec (Instr.addRoundKey r) s = .next (addRoundKeyStep r s) := by
  match r with
  | 0 | 1 | 2 | 3 | 4 | 5 | 6 | 7 | 8 | 9 | 10 => rfl

/-- Every command is ADD_ROUND_KEY r for some r, or one of the twelve others. -/
theorem instr_cases (i : Instr) : (∃ r, i = Instr.addRoundKey r) ∨
    i ∈ [Instr.nop, .keyExpand, .encrypt, .decrypt, .ctrGen, .ctrXor, .subBytes, .invSubBytes, .shiftRows, .invShiftRows,
      .mixColumns, .invMixColumns] := by
  revert i
  intro i
  cases i <;> decide

@[simp] theorem addRoundKey_needsKey (r : Fin 11) : (Instr.addRoundKey r).needsKey = true := by
  revert r; decide

@[simp] theorem addRoundKey_ne_keyExpand (r : Fin 11) : Instr.addRoundKey r ≠ .keyExpand := by
  revert r; decide

@[simp] theorem addRoundKey_ne_ctrGen (r : Fin 11) : Instr.addRoundKey r ≠ .ctrGen := by
  revert r; decide

@[simp] theorem addRoundKey_ne_ctrXor (r : Fin 11) : Instr.addRoundKey r ≠ .ctrXor := by
  revert r; decide

@[simp] theorem addRoundKey_ne_nop (r : Fin 11) : Instr.addRoundKey r ≠ .nop := by
  revert r; decide

/-- What a completion leaves, when it computes: the fields a command may write, with the limits on each (R97). -/
structure Effect (i : Instr) (s t : State) : Prop where
  /-- Only STATE, KS, CTR, CTR_WRAP, the schedule RAM, KEY_VALID and the completion's own bits may change. -/
  frame : t = complete { s with
    state := t.state, ks := t.ks, ctr := t.ctr, ctrWrap := t.ctrWrap, rk := t.rk, keyValid := t.keyValid }
  schedule : i ≠ .keyExpand → t.rk = s.rk ∧ t.keyValid = s.keyValid
  expanded : i = .keyExpand → t.rk = keyExpansion s.key ∧ t.keyValid = true
  counter : i ≠ .ctrGen → i ≠ .ctrXor → t.ks = s.ks ∧ t.ctr = s.ctr ∧ t.ctrWrap = s.ctrWrap
  wrapSticks : s.ctrWrap = true → t.ctrWrap = true
  block : i = .keyExpand ∨ i = .nop ∨ i = .ctrGen → t.state = s.state

theorem effect_mapState (f : Block → Block) (s : State) {i : Instr} (h1 : i ≠ .keyExpand)
    (h2 : i ≠ .nop) (h3 : i ≠ .ctrGen) : Effect i s (complete (mapState f s)) where
  frame := rfl
  schedule := fun _ => ⟨rfl, rfl⟩
  expanded := fun h => absurd h h1
  counter := fun _ _ => ⟨rfl, rfl, rfl⟩
  wrapSticks := id
  block := fun h => by simp_all

/-- Everything the completion of a command can do: end with ERR_NOKEY where the key it needs is not valid, which no run
reaches (log 3), or have its effect. -/
theorem exec_next_cases {i : Instr} {s t : State} (h : exec i s = .next t) :
    (i.needsKey = true ∧ s.keyValid = false ∧ t = complete (rejectNoKey s)) ∨
    ((i.needsKey = true → s.keyValid = true) ∧ Effect i s t) := by
  by_cases hk : i.needsKey = true ∧ s.keyValid = false
  · left
    refine ⟨hk.1, hk.2, ?_⟩
    obtain ⟨r, rfl⟩ | hi := instr_cases i
    · simp only [exec_addRoundKey, Outcome.next.injEq, addRoundKeyStep, completeWithKey_invalid _ hk.2] at h
      exact h.symm
    · simp only [List.mem_cons, List.not_mem_nil, or_false] at hi
      obtain rfl | rfl | rfl | rfl | rfl | rfl | rfl | rfl | rfl | rfl | rfl | rfl := hi <;>
        first
        | exact absurd hk.1 (by decide)
        | (simp only [exec_encrypt, exec_decrypt, exec_ctrGen, exec_ctrXor, Outcome.next.injEq,
            completeWithKey_invalid _ hk.2] at h
           exact h.symm)
  · right
    have hv : i.needsKey = true → s.keyValid = true := fun hn => by simpa [hn] using hk
    refine ⟨hv, ?_⟩
    obtain ⟨r, rfl⟩ | hi := instr_cases i
    · simp only [exec_addRoundKey, Outcome.next.injEq, addRoundKeyStep, completeWithKey_valid _ (hv (by simp))] at h
      subst h
      exact effect_mapState _ s (by simp) (by simp) (by simp)
    · simp only [List.mem_cons, List.not_mem_nil, or_false] at hi
      obtain rfl | rfl | rfl | rfl | rfl | rfl | rfl | rfl | rfl | rfl | rfl | rfl := hi
      · simp only [exec_nop, Outcome.next.injEq] at h
        subst h
        exact ⟨rfl, fun _ => ⟨rfl, rfl⟩, nofun, fun _ _ => ⟨rfl, rfl, rfl⟩, id, fun _ => rfl⟩
      · simp only [exec_keyExpand, Outcome.next.injEq] at h
        subst h
        exact ⟨rfl, fun h => absurd rfl h, fun _ => ⟨rfl, rfl⟩, fun _ _ => ⟨rfl, rfl, rfl⟩, id, fun _ => rfl⟩
      · simp only [exec_encrypt, Outcome.next.injEq, completeWithKey_valid _ (hv rfl)] at h
        subst h; exact effect_mapState _ s (by decide) (by decide) (by decide)
      · simp only [exec_decrypt, Outcome.next.injEq, completeWithKey_valid _ (hv rfl)] at h
        subst h; exact effect_mapState _ s (by decide) (by decide) (by decide)
      · simp only [exec_ctrGen, Outcome.next.injEq, completeWithKey_valid _ (hv rfl)] at h
        subst h
        exact ⟨by simp [incrementCtr, loadKeystream, complete],
          fun _ => by simp [incrementCtr, loadKeystream, complete], nofun, fun h => absurd rfl h,
          fun h => by simp [incrementCtr, loadKeystream, complete, h],
          fun _ => by simp [incrementCtr, loadKeystream, complete]⟩
      · simp only [exec_ctrXor, Outcome.next.injEq, completeWithKey_valid _ (hv rfl)] at h
        subst h
        exact ⟨by simp [incrementCtr, xorKeystream, loadKeystream, complete],
          fun _ => by simp [incrementCtr, xorKeystream, loadKeystream, complete], nofun, fun _ h => absurd rfl h,
          fun h => by simp [incrementCtr, xorKeystream, loadKeystream, complete, h], by simp⟩
      all_goals (simp only [exec_subBytes, exec_invSubBytes, exec_shiftRows, exec_invShiftRows, exec_mixColumns,
        exec_invMixColumns, Outcome.next.injEq] at h; subst h; exact effect_mapState _ s (by decide) (by decide) (by decide))

end Sys2Proof.Machine
end

