-- ==== Sys2Proof/Laws/Engine.lean ====
section
/-! SUPPORT. What one step can do to the engine's registers, whatever the host agent does with its own fields
(20_memory.md R69 to R71, 10_state.md R33). -/

namespace Sys2Proof.Machine

open Host (Outcome)

/-- A read changes at most ERR_BUS and the draw counter, and never lowers ERR_BUS (R69). -/
theorem busRead_state_eq (size off : Nat) (s : State) :
    ∃ b p, (busRead size off s).2 = { s with errBus := b, supply := p } ∧ (s.errBus = true → b = true) := by
  obtain h | h | ⟨_, h⟩ := busRead_state_cases size off s
  · exact ⟨s.errBus, s.supply, h, id⟩
  · exact ⟨true, s.supply, h, fun _ => rfl⟩
  · exact ⟨s.errBus, _, h, id⟩

/-- A host turn's effect on the engine: that of one read, of one write that its line names, or none. -/
theorem hostTurn_engine_cases {s t : State} (h : hostTurn s = .next t) :
    (∃ size off, t = { (busRead size off (passTurn s)).2 with supply := t.supply, host := t.host }) ∨
    (∃ size off v, hostNext s = some (.wr size off v) ∧
      t = { (busWrite size off v (passTurn s)).2 with supply := t.supply, host := t.host }) ∨
    t = { passTurn s with host := t.host, rst := t.rst } := by
  obtain h | ⟨size, off, name, h, _, e⟩ | ⟨size, off, v, h, _, e⟩ | ⟨off, mask, val, h, _, e⟩ | ⟨_, place, e⟩ | ⟨_, e⟩ :=
    hostTurn_next_cases h
  · exact .inr (.inr (by rw [h.2]))
  · refine .inl ⟨size, off, ?_⟩
    subst e
    simp only [nextLine, keepName, receive]
    split <;> rfl
  · refine .inr (.inl ⟨size, off, v, h, ?_⟩)
    subst e
    simp only [nextLine, receive]
    split <;> rfl
  · refine .inl ⟨4, off, ?_⟩
    obtain ⟨_, e⟩ | ⟨_, e⟩ := e <;> subst e <;> simp only [nextLine, receive] <;> split <;> rfl
  · exact .inr (.inr (by rw [e]))
  · exact .inr (.inr (by rw [e]; rfl))

/-- Everything a step without reset can do to the engine: complete the command in PEND; change ERR_BUS at most; or make
the host's write. -/
theorem step_engine_cases {s t : State} (hr : s.rst = false) (h : step s = .next t) :
    (∃ i, engineCommand s = some i ∧ exec i s = .next t) ∨
    (engineCommand s = none ∧
      ((∃ b, (s.errBus = true → b = true) ∧
          t = { s with errBus := b, latency := t.latency, supply := t.supply, host := t.host, rst := t.rst }) ∨
        ∃ size off v, hostNext s = some (.wr size off v) ∧
          t = { (busWrite size off v (passTurn s)).2 with supply := t.supply, host := t.host })) := by
  obtain h | ⟨_, i, h⟩ | ⟨_, he, h⟩ := step_next_cases h
  · simp [hr] at h
  · exact .inl ⟨i, h⟩
  · refine .inr ⟨he, ?_⟩
    obtain ⟨size, off, e⟩ | e | e := hostTurn_engine_cases h
    · obtain ⟨b, p, eb, hb⟩ := busRead_state_eq size off (passTurn s)
      rw [eb] at e
      exact .inl ⟨b, hb, by rw [e]; rfl⟩
    · exact .inr e
    · exact .inl ⟨s.errBus, id, by rw [e]; rfl⟩

end Sys2Proof.Machine
end

