-- ==== Sys2Proof/Laws/HostTurn.lean ====
section
/-! SUPPORT. The host agent's own operations: the names it keeps, the labels it finds, and that no access changes its
fields (30_encoding.md R101). -/

namespace Sys2Proof.Machine

@[simp] theorem lookupName_setName_self (name : Nat) (v : Word) (l : List (Nat × Word)) :
    lookupName name (setName name v l) = some v := by
  induction l with
  | nil => simp [setName, lookupName]
  | cons y ys ih =>
    obtain ⟨m, w⟩ := y
    by_cases h1 : name < m
    · simp [setName, h1, lookupName]
    · by_cases h2 : name = m
      · simp [setName, h2, lookupName]
      · simpa [setName, h1, h2, lookupName, Ne.symm h2] using ih

theorem lookupName_setName_of_ne {n name : Nat} (hn : n ≠ name) (v : Word) (l : List (Nat × Word)) :
    lookupName n (setName name v l) = lookupName n l := by
  induction l with
  | nil => simp [setName, lookupName, Ne.symm hn]
  | cons y ys ih =>
    obtain ⟨m, w⟩ := y
    by_cases h1 : name < m
    · simp [setName, h1, lookupName, Ne.symm hn]
    · by_cases h2 : name = m
      · subst h2
        simp [setName, lookupName, Ne.symm hn]
      · simp only [setName, if_neg h1, if_neg h2, lookupName, ih]

theorem mem_setName {name : Nat} {v : Word} {l : List (Nat × Word)} {x : Nat × Word} (h : x ∈ setName name v l) :
    x.1 = name ∨ x ∈ l := by
  induction l with
  | nil => simp_all [setName]
  | cons y ys ih =>
    obtain ⟨m, w⟩ := y
    by_cases h1 : name < m
    · simp only [setName, if_pos h1, List.mem_cons] at h
      obtain rfl | h := h
      · exact .inl rfl
      · exact .inr (List.mem_cons.2 h)
    · by_cases h2 : name = m
      · simp only [setName, if_neg h1, if_pos h2, List.mem_cons] at h
        obtain rfl | h := h
        · exact .inl rfl
        · exact .inr (List.mem_cons_of_mem _ h)
      · simp only [setName, if_neg h1, if_neg h2, List.mem_cons] at h
        obtain rfl | h := h
        · exact .inr List.mem_cons_self
        · exact (ih h).imp id (List.mem_cons_of_mem _)

/-- Keeping a name keeps the names rising. -/
theorem setName_rising (name : Nat) (v : Word) {l : List (Nat × Word)} (h : l.Pairwise fun a b => a.1 < b.1) :
    (setName name v l).Pairwise fun a b => a.1 < b.1 := by
  induction l with
  | nil => simp [setName]
  | cons y ys ih =>
    obtain ⟨m, w⟩ := y
    have hc := List.pairwise_cons.1 h
    by_cases h1 : name < m
    · simp only [setName, if_pos h1]
      refine List.pairwise_cons.2 ⟨fun a ha => ?_, h⟩
      obtain rfl | ha := List.mem_cons.1 ha
      · exact h1
      · exact lt_trans h1 (hc.1 a ha)
    · by_cases h2 : name = m
      · subst h2
        simpa only [setName, if_neg h1, if_true, List.pairwise_cons] using hc
      · simp only [setName, if_neg h1, if_neg h2]
        refine List.pairwise_cons.2 ⟨fun a ha => ?_, ih hc.2⟩
        obtain e | ha := mem_setName ha
        · rw [e]; omega
        · exact hc.1 a ha

/-- The label found is the first line that holds it. -/
theorem findLabel_first {l : Nat} {p : List HostOp} {place : Nat} (o : Nat)
    (h : p[place]? = some (HostOp.label l)) (hf : ∀ k < place, p[k]? ≠ some (HostOp.label l)) :
    findLabel l o p = some (o + place) := by
  induction p generalizing o place with
  | nil => simp at h
  | cons x xs ih =>
    cases place with
    | zero => simp_all [findLabel]
    | succ n =>
      have hx : x ≠ .label l := by simpa using hf 0 (by omega)
      rw [findLabel, if_neg hx, ih (o + 1) (by simpa using h) fun k hk => by simpa using hf (k + 1) (by omega)]
      simp only [Option.some.injEq]; omega

theorem findLabel_absent {l : Nat} {p : List HostOp} (o : Nat) (h : ∀ k : Nat, p[k]? ≠ some (HostOp.label l)) :
    findLabel l o p = none := by
  induction p generalizing o with
  | nil => rfl
  | cons x xs ih =>
    have hx : x ≠ .label l := by simpa using h 0
    rw [findLabel, if_neg hx, ih (o + 1) fun k => by simpa using h (k + 1)]

@[simp] theorem busRead_host (size off : Nat) (s : State) : (busRead size off s).2.host = s.host := by
  obtain ⟨b, p, h, _⟩ := busRead_state_eq size off s
  rw [h]

@[simp] theorem busWrite_host (size off : Nat) (v : Word) (s : State) : (busWrite size off v s).2.host = s.host := by
  obtain ⟨_, e⟩ | ⟨r, _, _, _, e⟩ | ⟨r, _, _, e⟩ := busWrite_state_cases size off v s <;> rw [e]
  · rfl
  · rfl
  · cases r with
    | cmd =>
      simp only [writeReg]
      obtain ⟨_, h⟩ | ⟨_, _, h⟩ | ⟨i, _, _, _, _, h⟩ | ⟨i, _, _, _, h⟩ := writeCmd_cases v s <;> rw [h] <;> rfl
    | id | ctrl | status | key | state | ks | nonce | ctrHi | ctrLo | lutAddr | lutData | rk => rfl

end Sys2Proof.Machine
end

