-- ==== Sys2Proof/Laws/PerInstr.lean ====
section
/-! SUPPORT. The per-instruction family Encoding: the fields of a command's word are its OP and ROUND with RSVD = 0, and
they are well formed (30_encoding.md R90, R92, R93, R100). -/

namespace Sys2Proof.Laws.Encoding

/-- The word of `i` holds its OP, its ROUND and nothing else, and passes the three checks. -/
def Statement (i : Instr) : Prop :=
  CmdFields.ofWord (encode i) = { op := i.op, round := i.round, rsvd := 0 } ∧ (CmdFields.ofWord (encode i)).wellFormed = true

theorem nop : Statement .nop := by unfold Statement; decide
theorem keyExpand : Statement .keyExpand := by unfold Statement; decide
theorem encrypt : Statement .encrypt := by unfold Statement; decide
theorem decrypt : Statement .decrypt := by unfold Statement; decide
theorem ctrGen : Statement .ctrGen := by unfold Statement; decide
theorem ctrXor : Statement .ctrXor := by unfold Statement; decide
theorem subBytes : Statement .subBytes := by unfold Statement; decide
theorem invSubBytes : Statement .invSubBytes := by unfold Statement; decide
theorem shiftRows : Statement .shiftRows := by unfold Statement; decide
theorem invShiftRows : Statement .invShiftRows := by unfold Statement; decide
theorem mixColumns : Statement .mixColumns := by unfold Statement; decide
theorem invMixColumns : Statement .invMixColumns := by unfold Statement; decide
theorem addRoundKey0 : Statement .addRoundKey0 := by unfold Statement; decide
theorem addRoundKey1 : Statement .addRoundKey1 := by unfold Statement; decide
theorem addRoundKey2 : Statement .addRoundKey2 := by unfold Statement; decide
theorem addRoundKey3 : Statement .addRoundKey3 := by unfold Statement; decide
theorem addRoundKey4 : Statement .addRoundKey4 := by unfold Statement; decide
theorem addRoundKey5 : Statement .addRoundKey5 := by unfold Statement; decide
theorem addRoundKey6 : Statement .addRoundKey6 := by unfold Statement; decide
theorem addRoundKey7 : Statement .addRoundKey7 := by unfold Statement; decide
theorem addRoundKey8 : Statement .addRoundKey8 := by unfold Statement; decide
theorem addRoundKey9 : Statement .addRoundKey9 := by unfold Statement; decide
theorem addRoundKey10 : Statement .addRoundKey10 := by unfold Statement; decide

end Sys2Proof.Laws.Encoding
end

