-- ==== Sys2Proof/Tests/Slice0.lean ====
section
/-! SUPPORT. Tests: the smoke tests of the well-formedness checks, each command's word decoded, the vectors of
95_test_vectors.md one step at a time, and for each obligation with hypotheses a witness that meets them. Every expected
value comes from spec/. -/

namespace Sys2Proof.Tests

open Sys2Proof.Machine
open Host (Outcome)

set_option Elab.async false

/-! ## Helpers -/

/-- The block written as 32 hex digits, byte 0 first (00_scope.md R10). -/
def blk (x : BitVec 128) : Block := Vector.ofFn fun i => x.extractLsb' (8 * (15 - i.val)) 8

/-- The nonce written as 16 hex digits, byte 0 first. -/
def non (x : BitVec 64) : Nonce := Vector.ofFn fun i => x.extractLsb' (8 * (7 - i.val)) 8

/-- The state an outcome goes on with. -/
def nextOf : Outcome State Fault Refusal → Option State
  | .next s => some s
  | .fault _ => none
  | .refused _ => none

/-- The state after the completion of a command. -/
def after (i : Instr) (s : State) : Option State := nextOf (exec i s)

/-- Reset, with the given STATE. -/
def withState (b : Block) : State := { State.reset with state := b }

/-- The schedule of the key of FIPS-197 Appendix A.1, as 42_key_schedule.md R178 lists it. -/
def schedA : Schedule := #v[
    0x2b7e1516, 0x28aed2a6, 0xabf71588, 0x09cf4f3c, 0xa0fafe17, 0x88542cb1, 0x23a33939, 0x2a6c7605, 0xf2c295f2, 0x7a96b943, 0x5935807a,
    0x7359f67f, 0x3d80477d, 0x4716fe3e, 0x1e237e44, 0x6d7a883b, 0xef44a541, 0xa8525b7f, 0xb671253b, 0xdb0bad00, 0xd4d1c6f8, 0x7c839d87,
    0xcaf2b8bc, 0x11f915bc, 0x6d88a37a, 0x110b3efd, 0xdbf98641, 0xca0093fd, 0x4e54f70e, 0x5f5fc9f3, 0x84a64fb2, 0x4ea6dc4f, 0xead27321,
    0xb58dbad2, 0x312bf560, 0x7f8d292f, 0xac7766f3, 0x19fadc21, 0x28d12941, 0x575c006e, 0xd014f9a8, 0xc9ee2589, 0xe13f0cc8, 0xb6630ca6]

/-- The schedule of the key of 16 zero bytes (R178). -/
def sched0 : Schedule := #v[
    0x00000000, 0x00000000, 0x00000000, 0x00000000, 0x62636363, 0x62636363, 0x62636363, 0x62636363, 0x9b9898c9, 0xf9fbfbaa, 0x9b9898c9,
    0xf9fbfbaa, 0x90973450, 0x696ccffa, 0xf2f45733, 0x0b0fac99, 0xee06da7b, 0x876a1581, 0x759e42b2, 0x7e91ee2b, 0x7f2e2b88, 0xf8443e09,
    0x8dda7cbb, 0xf34b9290, 0xec614b85, 0x1425758c, 0x99ff0937, 0x6ab49ba7, 0x21751787, 0x3550620b, 0xacaf6b3c, 0xc61bf09b, 0x0ef90333,
    0x3ba96138, 0x97060a04, 0x511dfa9f, 0xb1d4d8e2, 0x8a7db9da, 0x1d7bb3de, 0x4c664941, 0xb4ef5bcb, 0x3e92e211, 0x23e951cf, 0x6f8f188e]

/-- Reset, with the schedule of R178's first key valid, and the given STATE. -/
def keyedA (b : Block) : State :=
  { State.reset with key := blk 0x2b7e151628aed2a6abf7158809cf4f3c, rk := schedA, keyValid := true, state := b }

/-- Reset, with the zero key's schedule valid, and the given STATE, NONCE and CTR. -/
def keyed0 (b : Block) (n : Nonce) (c : BitVec 64) : State :=
  { State.reset with rk := sched0, keyValid := true, done := true, state := b, nonce := n, ctr := c }

/-- The command i pending, with `k` host turns to go. -/
def pending (i : Instr) (k : Nat) (s : State) : State := { s with busy := true, done := false, pend := some i, latency := k }

/-- The host's program, from its first line. -/
def running (prog : List HostOp) (s : State) : State := { s with host := { HostAgent.idle with prog := prog } }

/-! ## Well-formedness: an ill-formed word for each check (R92, R93, R98; vectors E5, E6, E8, E10, E11, E12) -/

theorem test_refused_rsvd_bit_12 : (CmdFields.ofWord 0x00001000).rsvdZero = false ∧ (CmdFields.ofWord 0x00001000).wellFormed = false ∧
    decode 0x00001000 = .error .reservedBits := by decide
theorem test_refused_rsvd_bit_31 : (CmdFields.ofWord 0x80000002).rsvdZero = false ∧ (CmdFields.ofWord 0x80000002).wellFormed = false ∧
    decode 0x80000002 = .error .reservedBits := by decide
theorem test_refused_op_06 : (CmdFields.ofWord 0x00000006).opAssigned = false ∧ (CmdFields.ofWord 0x00000006).wellFormed = false ∧
    decode 0x00000006 = .error .opUnassigned := by decide
theorem test_refused_op_0F : (CmdFields.ofWord 0x0000000F).opAssigned = false ∧ (CmdFields.ofWord 0x0000000F).wellFormed = false ∧
    decode 0x0000000F = .error .opUnassigned := by decide
theorem test_refused_op_17 : (CmdFields.ofWord 0x00000017).opAssigned = false ∧ (CmdFields.ofWord 0x00000017).wellFormed = false ∧
    decode 0x00000017 = .error .opUnassigned := by decide
theorem test_refused_op_FF : (CmdFields.ofWord 0x000000FF).opAssigned = false ∧ (CmdFields.ofWord 0x000000FF).wellFormed = false ∧
    decode 0x000000FF = .error .opUnassigned := by decide
theorem test_refused_round_11 : (CmdFields.ofWord 0x00000B16).roundLegal = false ∧ (CmdFields.ofWord 0x00000B16).wellFormed = false ∧
    decode 0x00000B16 = .error .roundOutOfRange := by decide
theorem test_refused_round_12 : (CmdFields.ofWord 0x00000C16).roundLegal = false ∧ (CmdFields.ofWord 0x00000C16).wellFormed = false ∧
    decode 0x00000C16 = .error .roundOutOfRange := by decide
theorem test_refused_round_on_sub_bytes : (CmdFields.ofWord 0x00000110).roundLegal = false ∧ (CmdFields.ofWord 0x00000110).wellFormed = false ∧
    decode 0x00000110 = .error .roundNotZero := by decide

/-! ## Decoding: each command's word, as RSVD, ROUND and OP from the encoding of R90 and R91 -/

theorem test_decode_nop : decode (0b00000000000000000000#20 ++ 0b0000#4 ++ 0b00000000#8) = .ok .nop := by decide
theorem test_decode_keyExpand : decode (0b00000000000000000000#20 ++ 0b0000#4 ++ 0b00000001#8) = .ok .keyExpand := by decide
theorem test_decode_encrypt : decode (0b00000000000000000000#20 ++ 0b0000#4 ++ 0b00000010#8) = .ok .encrypt := by decide
theorem test_decode_decrypt : decode (0b00000000000000000000#20 ++ 0b0000#4 ++ 0b00000011#8) = .ok .decrypt := by decide
theorem test_decode_ctrGen : decode (0b00000000000000000000#20 ++ 0b0000#4 ++ 0b00000100#8) = .ok .ctrGen := by decide
theorem test_decode_ctrXor : decode (0b00000000000000000000#20 ++ 0b0000#4 ++ 0b00000101#8) = .ok .ctrXor := by decide
theorem test_decode_subBytes : decode (0b00000000000000000000#20 ++ 0b0000#4 ++ 0b00010000#8) = .ok .subBytes := by decide
theorem test_decode_invSubBytes : decode (0b00000000000000000000#20 ++ 0b0000#4 ++ 0b00010001#8) = .ok .invSubBytes := by decide
theorem test_decode_shiftRows : decode (0b00000000000000000000#20 ++ 0b0000#4 ++ 0b00010010#8) = .ok .shiftRows := by decide
theorem test_decode_invShiftRows : decode (0b00000000000000000000#20 ++ 0b0000#4 ++ 0b00010011#8) = .ok .invShiftRows := by decide
theorem test_decode_mixColumns : decode (0b00000000000000000000#20 ++ 0b0000#4 ++ 0b00010100#8) = .ok .mixColumns := by decide
theorem test_decode_invMixColumns : decode (0b00000000000000000000#20 ++ 0b0000#4 ++ 0b00010101#8) = .ok .invMixColumns := by decide
theorem test_decode_addRoundKey0 : decode (0b00000000000000000000#20 ++ 0b0000#4 ++ 0b00010110#8) = .ok .addRoundKey0 := by decide
theorem test_decode_addRoundKey1 : decode (0b00000000000000000000#20 ++ 0b0001#4 ++ 0b00010110#8) = .ok .addRoundKey1 := by decide
theorem test_decode_addRoundKey2 : decode (0b00000000000000000000#20 ++ 0b0010#4 ++ 0b00010110#8) = .ok .addRoundKey2 := by decide
theorem test_decode_addRoundKey3 : decode (0b00000000000000000000#20 ++ 0b0011#4 ++ 0b00010110#8) = .ok .addRoundKey3 := by decide
theorem test_decode_addRoundKey4 : decode (0b00000000000000000000#20 ++ 0b0100#4 ++ 0b00010110#8) = .ok .addRoundKey4 := by decide
theorem test_decode_addRoundKey5 : decode (0b00000000000000000000#20 ++ 0b0101#4 ++ 0b00010110#8) = .ok .addRoundKey5 := by decide
theorem test_decode_addRoundKey6 : decode (0b00000000000000000000#20 ++ 0b0110#4 ++ 0b00010110#8) = .ok .addRoundKey6 := by decide
theorem test_decode_addRoundKey7 : decode (0b00000000000000000000#20 ++ 0b0111#4 ++ 0b00010110#8) = .ok .addRoundKey7 := by decide
theorem test_decode_addRoundKey8 : decode (0b00000000000000000000#20 ++ 0b1000#4 ++ 0b00010110#8) = .ok .addRoundKey8 := by decide
theorem test_decode_addRoundKey9 : decode (0b00000000000000000000#20 ++ 0b1001#4 ++ 0b00010110#8) = .ok .addRoundKey9 := by decide
theorem test_decode_addRoundKey10 : decode (0b00000000000000000000#20 ++ 0b1010#4 ++ 0b00010110#8) = .ok .addRoundKey10 := by decide

/-! ## The first instruction after reset: the word of each command is the one the next step performs -/

theorem test_fetch_sub_bytes :
    (nextOf (step (State.reset.withFetchWord 32 0x10))).map (·.state) = some (Vector.replicate 16 0x63) := by
  decide +kernel

theorem test_fetch_refused_word :
    (nextOf (step (State.reset.withFetchWord 32 0x06))).map statusWord = some 0x00000012 := by decide +kernel

/-! ## Commands (95_test_vectors.md 2.3 to 2.6, 42_key_schedule.md R178) -/

theorem test_nop_status : (after .nop (pending .nop 0 (keyedA (blk 0)))).map statusWord = some 0x00000006 := by
  decide +kernel

/-- Vector P-1. -/
theorem test_sub_bytes : (after .subBytes (withState (blk 0x000102030405060708090a0b0c0d0e0f))).map (·.state) =
    some (blk 0x637c777bf26b6fc53001672bfed7ab76) := by decide +kernel

/-- Vector P-3. -/
theorem test_inv_sub_bytes : (after .invSubBytes (withState (blk 0x000102030405060708090a0b0c0d0e0f))).map (·.state) =
    some (blk 0x52096ad53036a538bf40a39e81f3d7fb) := by decide +kernel

/-- Vector P-5. -/
theorem test_shift_rows : (after .shiftRows (withState (blk 0x000102030405060708090a0b0c0d0e0f))).map (·.state) =
    some (blk 0x00050a0f04090e03080d02070c01060b) := by decide +kernel

/-- Vector P-6. -/
theorem test_inv_shift_rows : (after .invShiftRows (withState (blk 0x000102030405060708090a0b0c0d0e0f))).map (·.state) =
    some (blk 0x000d0a0704010e0b0805020f0c090603) := by decide +kernel

/-- Vector P-8. -/
theorem test_mix_columns_b : (after .mixColumns (withState (blk 0xd4bf5d30e0b452aeb84111f11e2798e5))).map (·.state) =
    some (blk 0x046681e5e0cb199a48f8d37a2806264c) := by decide +kernel

/-- Vector P-9. -/
theorem test_mix_columns : (after .mixColumns (withState (blk 0xdb135345f20a225cd4d4d4d52d26314c))).map (·.state) =
    some (blk 0x8e4da1bc9fdc589dd5d5d7d64d7ebdf8) := by decide +kernel

/-- Vector P-11. -/
theorem test_inv_mix_columns_b : (after .invMixColumns (withState (blk 0x046681e5e0cb199a48f8d37a2806264c))).map (·.state) =
    some (blk 0xd4bf5d30e0b452aeb84111f11e2798e5) := by decide +kernel

/-- Vector P-12. -/
theorem test_inv_mix_columns : (after .invMixColumns (withState (blk 0xdb135345f20a225cd4d4d4d52d26314c))).map (·.state) =
    some (blk 0x32a41d55aec36982ddd9dfdaa05050d6) := by decide +kernel

/-- Vector P-13. -/
theorem test_add_round_key_p13 : (after .addRoundKey1 (keyedA (blk 0x046681e5e0cb199a48f8d37a2806264c))).map (·.state) =
    some (blk 0xa49c7ff2689f352b6b5bea43026a5049) := by decide +kernel

/-- Vector P-14. -/
theorem test_add_round_key_p14 : (after .addRoundKey0 (keyedA (blk 0x3243f6a8885a308d313198a2e0370734))).map (·.state) =
    some (blk 0x193de3bea0f4e22b9ac68d2ae9f84808) := by decide +kernel

/-- Vector the last round of FIPS-197 Appendix B. -/
theorem test_add_round_key_final_round : (after .addRoundKey10 (keyedA (blk 0xe9317db5cb322c723d2e895faf090794))).map (·.state) =
    some (blk 0x3925841d02dc09fbdc118597196a0b32) := by decide +kernel

/-- STATE = 0 becomes RK[2] (R156, R178). -/
theorem test_add_round_key_2 : (after .addRoundKey2 (keyedA (blk 0))).map (·.state) =
    some (blk 0xf2c295f27a96b9435935807a7359f67f) := by decide +kernel

/-- STATE = 0 becomes RK[3] (R156, R178). -/
theorem test_add_round_key_3 : (after .addRoundKey3 (keyedA (blk 0))).map (·.state) =
    some (blk 0x3d80477d4716fe3e1e237e446d7a883b) := by decide +kernel

/-- STATE = 0 becomes RK[4] (R156, R178). -/
theorem test_add_round_key_4 : (after .addRoundKey4 (keyedA (blk 0))).map (·.state) =
    some (blk 0xef44a541a8525b7fb671253bdb0bad00) := by decide +kernel

/-- STATE = 0 becomes RK[5] (R156, R178). -/
theorem test_add_round_key_5 : (after .addRoundKey5 (keyedA (blk 0))).map (·.state) =
    some (blk 0xd4d1c6f87c839d87caf2b8bc11f915bc) := by decide +kernel

/-- STATE = 0 becomes RK[6] (R156, R178). -/
theorem test_add_round_key_6 : (after .addRoundKey6 (keyedA (blk 0))).map (·.state) =
    some (blk 0x6d88a37a110b3efddbf98641ca0093fd) := by decide +kernel

/-- STATE = 0 becomes RK[7] (R156, R178). -/
theorem test_add_round_key_7 : (after .addRoundKey7 (keyedA (blk 0))).map (·.state) =
    some (blk 0x4e54f70e5f5fc9f384a64fb24ea6dc4f) := by decide +kernel

/-- STATE = 0 becomes RK[8] (R156, R178). -/
theorem test_add_round_key_8 : (after .addRoundKey8 (keyedA (blk 0))).map (·.state) =
    some (blk 0xead27321b58dbad2312bf5607f8d292f) := by decide +kernel

/-- STATE = 0 becomes RK[9] (R156, R178). -/
theorem test_add_round_key_9 : (after .addRoundKey9 (keyedA (blk 0))).map (·.state) =
    some (blk 0xac7766f319fadc2128d12941575c006e) := by decide +kernel

/-- Vector K1, with all 44 words of R178. -/
theorem test_key_expand :
    (after .keyExpand { State.reset with key := blk 0x2b7e151628aed2a6abf7158809cf4f3c }).map
      (fun t => (t.rk, t.keyValid)) = some (schedA, true) := by decide +kernel

/-- Vector K2. -/
theorem test_key_expand_zero : (after .keyExpand State.reset).map (·.rk) = some sched0 := by decide +kernel

/-- Vector B3. -/
theorem test_encrypt : (after .encrypt (keyedA (blk 0x3243f6a8885a308d313198a2e0370734))).map (·.state) =
    some (blk 0x3925841d02dc09fbdc118597196a0b32) := by decide +kernel

/-- Vector B7. -/
theorem test_decrypt : (after .decrypt (keyed0 (blk 0) (non 0) 1)).map (·.state) =
    some (blk 0x140f0f1011b5223d79587717ffd9ec3a) := by decide +kernel

/-- Vector X5: the counter wraps, and STATUS is 0x46. -/
theorem test_ctr_gen_wraps :
    (after .ctrGen (keyed0 (blk 0) (non 0x0011223344556677) 0xFFFFFFFFFFFFFFFF)).map
      (fun t => (t.ks, t.ctr, statusWord t)) =
    some (blk 0x2fe62b7957fa6e9d08630c1c892b0db6, 0, 0x00000046) := by decide +kernel

/-- Vector X9: the carry stays in the 64-bit counter, and no CTR_WRAP. -/
theorem test_ctr_gen_carries :
    (after .ctrGen (keyed0 (blk 0) (non 0) 0x00000000FFFFFFFF)).map (fun t => (ctrHiWord t, ctrLoWord t, t.ctrWrap)) =
    some (1, 0, false) := by decide +kernel

/-- Vector X1. -/
theorem test_ctr_xor :
    (after .ctrXor (keyed0 (blk 0x6162636465666768696a6b6c6d6e6f70) (non 0) 1)).map (fun t => (t.state, t.ctr)) =
    some (blk 0x39809faa9f1857095f15763bc9892a2a, 2) := by decide +kernel

/-- The counter blocks of R218, under both byte orders. -/
theorem test_counter_block :
    counterBlock .be (non 0x0011223344556677) 0xffffffffffffffff = blk 0x0011223344556677ffffffffffffffff ∧
    counterBlock .be (non 0) 1 = blk 0x00000000000000000000000000000001 ∧
    counterBlock .le (non 0) 2 = blk 0x00000000000000000200000000000000 := by decide +kernel

/-! ## Galois field and tables (95_test_vectors.md 2.2) -/

theorem test_xtime : [0x57, 0xAE, 0x47, 0x8E, 0x80, 0xFF].map xtime = [0xAE, 0x47, 0x8E, 0x07, 0x1B, 0xE5] := by decide

theorem test_gmul : gmul 0x57 0x83 = 0xC1 ∧ gmul 0x57 0x13 = 0xFE := by decide +kernel

theorem test_ginv : [0x00, 0x01, 0x02, 0x03, 0x53, 0xFF].map ginv = [0x00, 0x01, 0x8D, 0xF6, 0xCA, 0x1C] := by
  decide +kernel

theorem test_sbox : [0x00, 0x01, 0x10, 0x53, 0x80, 0xFF].map sbox = [0x63, 0x7C, 0xCA, 0xED, 0xCD, 0x16] ∧
    [0x00, 0x63, 0x7C, 0xED, 0x16, 0xFF].map invSbox = [0x52, 0x00, 0x01, 0x53, 0xFF, 0x7D] := by decide +kernel

theorem test_mul_tables : [mul2, mul3, mul9, mul11, mul13, mul14].map (fun f => (f 0x00, f 0x01, f 0x57, f 0x80, f 0xFF)) =
    [(0x00, 0x02, 0xAE, 0x1B, 0xE5), (0x00, 0x03, 0xF9, 0x9B, 0x1A), (0x00, 0x09, 0xD9, 0xEC, 0x46),
      (0x00, 0x0B, 0x77, 0xF7, 0xA3), (0x00, 0x0D, 0x9E, 0xDA, 0x97), (0x00, 0x0E, 0x67, 0x41, 0x8D)] := by
  decide +kernel

/-- Vectors T13 and T14: LUT_DATA and LUT_ADDR after a write of LUT_ADDR. -/
theorem test_lut :
    (busRead 4 0x054 (busWrite 4 0x050 0x00000253 State.reset).2).1 = okResp 0x000000A6 ∧
    (busRead 4 0x050 (busWrite 4 0x050 0xFFFFF8FF State.reset).2).1 = okResp 0x000000FF ∧
    (busRead 4 0x054 (busWrite 4 0x050 0xFFFFF8FF State.reset).2).1 = okResp 0x00000016 := by decide +kernel

/-! ## CMD writes (95_test_vectors.md 2.1, E1 to E14): STATUS after the write -/

theorem test_cmd_write_no_key :
    ([0x00000000, 0x00000001, 0x00000002, 0x00000006, 0x00000C16, 0x00000016] : List Word).map
      (fun v => statusWord (busWrite 4 0x00C v State.reset).2) = [0x01, 0x01, 0x22, 0x12, 0x12, 0x22] := by
  decide +kernel

theorem test_cmd_write_with_key :
    ([0x00000002, 0x00000A16, 0x00000B16, 0x80000002] : List Word).map
      (fun v => statusWord (busWrite 4 0x00C v (keyed0 (blk 0) (non 0) 1)).2) = [0x05, 0x05, 0x16, 0x16] := by
  decide +kernel

theorem test_cmd_write_busy :
    ([0x00000000, 0x00000006] : List Word).map
      (fun v => (statusWord (busWrite 4 0x00C v (pending .subBytes 3 State.reset)).2,
        (busWrite 4 0x00C v (pending .subBytes 3 State.reset)).2.pend)) =
    [(0x09, some .subBytes), (0x09, some .subBytes)] := by decide +kernel

/-! ## Bus, status, errors, reset (95_test_vectors.md 2.8, 2.9) -/

theorem test_bus_reads : busRead 4 0x000 State.reset = (okResp 0x41455331, State.reset) ∧
    busRead 4 0x00C State.reset = (okResp 0, State.reset) ∧ busRead 4 0x010 State.reset = (okResp 0, State.reset) :=
  ⟨rfl, rfl, rfl⟩

theorem test_bus_errors : [(1, 0x020), (4, 0x022), (4, 0x060), (4, 0x1B0), (8, 0x000), (2, 0x1FE)].map
      (fun p => ((busRead p.1 p.2 State.reset).1, statusWord (busRead p.1 p.2 State.reset).2,
        (busWrite p.1 p.2 5 State.reset).1.error, statusWord (busWrite p.1 p.2 5 State.reset).2)) =
    List.replicate 6 ({ data := 0, error := true }, 0x80, true, 0x80) := by decide +kernel

theorem test_status_write :
    statusWord (busWrite 4 0x008 0x000000FE (clearFlags 0
      { State.reset with done := true, errBusy := true, errCmd := true, errNokey := true, ctrWrap := true, errBus := true })).2
        = 0x00 ∧
    statusWord (busWrite 4 0x008 0x00000004 (keyed0 (blk 0) (non 0) 1)).2 = 0x06 := by decide +kernel

theorem test_ctrl_and_irq :
    (busRead 4 0x004 (busWrite 4 0x004 0xFFFFFFFF State.reset).2).1.data = 0x00000001 ∧
    irq { State.reset with irqEn := true, done := true } = true ∧
    irq (busWrite 4 0x008 0x02 { State.reset with irqEn := true, done := true }).2 = false := by decide +kernel

/-- Vectors A-12 to A-15. -/
theorem test_busy_accesses :
    (busWrite 4 0x020 0x12345678 (pending .subBytes 3 State.reset)).2 =
      { pending .subBytes 3 State.reset with errBusy := true } ∧
    (busRead 4 0x020 (pending .subBytes 3 State.reset)).1.data = Config.draw 44 ∧
    (busRead 4 0x1AC (pending .subBytes 3 State.reset)).1.data = Config.draw 44 ∧
    (busRead 4 0x040 (pending .subBytes 3 State.reset)).1.data = 0 ∧
    (busRead 4 0x008 (pending .subBytes 3 State.reset)).1.data = 0x01 ∧
    (busWrite 4 0x004 1 (pending .subBytes 3 State.reset)).2 = { pending .subBytes 3 State.reset with irqEn := true } :=
  ⟨rfl, rfl, rfl, rfl, rfl, rfl⟩

/-- Vector K7: a KEY write clears KEY_VALID, and RK_W4 then reads 0. -/
theorem test_key_write_clears :
    (busRead 4 0x110 (keyedA (blk 0))).1.data = 0xa0fafe17 ∧
    (busRead 4 0x110 (busWrite 4 0x018 0x55AA55AA (keyedA (blk 0))).2).1.data = 0 ∧
    statusWord (busWrite 4 0x018 0x55AA55AA (keyedA (blk 0))).2 = 0x00 := by decide +kernel

/-- Vectors Z2 and Z3: reset abandons the pending command, and the schedule is gone. -/
theorem test_reset_abandons :
    (nextOf (step { pending .encrypt 0 (keyedA (blk 7)) with rst := true })).map
      (fun t => (statusWord t, t.pend, t.state, statusWord (busWrite 4 0x00C 0x2 t).2)) =
    some (0x00, none, blk 0, 0x22) := by decide +kernel

/-- The host's `rst` line asserts the reset input (program P6). -/
theorem test_rst_line : (nextOf (step (running [.rst] State.reset))).map (·.rst) = some true := by decide +kernel

/-- The padding lengths of 45_host_stream.md R244. -/
theorem test_pad_lengths : [20, 16, 17, 31, 32, 1, 15, 33].map padLength = [12, 0, 15, 1, 0, 15, 1, 15] := by decide

/-- Vectors H10, H11, H12 and H14: the sizes and the padding byte that are refused. -/
theorem test_frame_valid :
    frameValid (List.replicate 24 0) = false ∧ frameValid (List.replicate 26 0) = false ∧
    frameValid (List.replicate 8 0 ++ [0x10] ++ List.replicate 16 0) = false ∧
    frameValid (List.replicate 8 0 ++ [0x0F] ++ List.replicate 16 0) = true := by decide +kernel

/-! ## Witnesses: for each obligation with hypotheses, a state and operands that meet them, a clause each -/

/-- A state with a schedule that is the key's own. -/
def expanded (k : Block) (s : State) : State := { s with key := k, rk := keyExpansion k, keyValid := true }

/-- It meets the invariant when it is idle and the host has read nothing. -/
theorem inv_expanded (k : Block) (s : State) (hb : s.busy = false) (hp : s.pend = none) (hn : s.host.names = []) :
    Inv (expanded k s) where
  busyIffPend := by simp [expanded, hb, hp]
  scheduleMatchesKey := fun _ => rfl
  pendHasKey := fun _ _ _ => rfl
  namesRising := by simp [expanded, hn]

/-- The invariant holds of a state with a command pending that needs the key. -/
theorem inv_pending : Inv (pending .encrypt 2 (expanded (blk 1) State.reset)) :=
  { busyIffPend := rfl, scheduleMatchesKey := fun _ => rfl, pendHasKey := fun _ _ _ => rfl, namesRising := .nil }

/-- StepRunsResetEngineOrHost: the four clauses, the last one at latency 1. -/
theorem witness_StepRunsResetEngineOrHost :
    ({ State.reset with rst := true } : State).rst = true ∧
    ((pending .nop 0 State.reset).rst = false ∧ (pending .nop 0 State.reset).busy = true ∧
      (pending .nop 0 State.reset).pend = some .nop ∧ (pending .nop 0 State.reset).latency = 0) ∧
    (State.reset.rst = false ∧ State.reset.busy = false) ∧
    ((pending .nop 1 State.reset).rst = false ∧ (pending .nop 1 State.reset).latency = 0 + 1) :=
  ⟨rfl, ⟨rfl, rfl, rfl, rfl⟩, ⟨rfl, rfl⟩, rfl, rfl⟩

/-- CmdWriteAcceptsOrRejects: busy; invalid; no key; accepted with and without a key. -/
theorem witness_CmdWriteAcceptsOrRejects :
    (pending .nop 1 State.reset).busy = true ∧
    (State.reset.busy = false ∧ decode 0x00000C16 = .error .roundOutOfRange) ∧
    (State.reset.busy = false ∧ decode 0x00000A16 = .ok .addRoundKey10 ∧ Instr.addRoundKey10.needsKey = true ∧
      State.reset.keyValid = false) ∧
    (State.reset.busy = false ∧ decode 0x00000001 = .ok .keyExpand ∧
      (Instr.keyExpand.needsKey = true → State.reset.keyValid = true)) ∧
    ((keyedA (blk 0)).busy = false ∧ decode 0x00000002 = .ok .encrypt ∧
      (Instr.encrypt.needsKey = true → (keyedA (blk 0)).keyValid = true)) := by decide

/-- EveryCommandCompletes: with and without a key. -/
theorem witness_EveryCommandCompletes :
    (Instr.ctrXor.needsKey = true → (keyedA (blk 0)).keyValid = true) ∧
    (Instr.subBytes.needsKey = true → State.reset.keyValid = true) ∧
    (Instr.encrypt.needsKey = true ∧ State.reset.keyValid = false) := by decide

/-- CommandsKeepTheirWriteSets: a command that completes, for each side condition. -/
theorem witness_CommandsKeepTheirWriteSets :
    exec .ctrGen (keyedA (blk 0)) = .next (afterCommand .ctrGen (keyedA (blk 0))) ∧ Instr.ctrGen ≠ .keyExpand ∧
    exec .keyExpand State.reset = .next (afterCommand .keyExpand State.reset) ∧
    (Instr.keyExpand ≠ .ctrGen ∧ Instr.keyExpand ≠ .ctrXor) ∧ (Instr.keyExpand = .keyExpand ∨ Instr.keyExpand = .nop ∨
      Instr.keyExpand = .ctrGen) :=
  ⟨rfl, by decide, rfl, by decide, by decide⟩

/-- AddRoundKeyXorsScheduleWords, EncryptAndDecryptApplyTheCipher, EncryptEqualsItsPrimitiveCommands: a valid key, and the
first and last round key. -/
theorem witness_keyValid : (keyedA (blk 0)).keyValid = true ∧ (keyed0 (blk 0) (non 0) 1).keyValid = true ∧
    Instr.addRoundKey 0 = .addRoundKey0 ∧ Instr.addRoundKey 10 = .addRoundKey10 := by decide

/-- KeyExpandFillsTheSchedule: the first and last steps of the recurrence. -/
theorem witness_KeyExpandFillsTheSchedule : (4 ≤ 4 ∧ 4 < 44) ∧ (4 ≤ 43 ∧ 43 < 44) := by decide

/-- RoundPrimitivesInvert: a block whose column 3 is all equal. -/
theorem witness_RoundPrimitivesInvert :
    ∀ r, stateAt (blk 0x000102030405060708090a0bc6c6c6c6) r 3 = 0xC6 := by decide

/-- CtrGenMakesKeystream and CtrXorCombinesKeystream: a valid key, at the last counter value. -/
theorem witness_CtrGenMakesKeystream : (keyed0 (blk 0) (non 0) 0xFFFFFFFFFFFFFFFF).keyValid = true ∧
    (keyed0 (blk 0) (non 0) 0xFFFFFFFFFFFFFFFF).ctr.toNat = 2 ^ 64 - 1 := by decide

/-- CtrXorIsSelfInverse: the second command starts from the first one's STATE. -/
theorem witness_CtrXorIsSelfInverse : ∃ s s' t : State, Inv s ∧ Inv s' ∧ s.keyValid = true ∧ s'.keyValid = true ∧
    s'.key = s.key ∧ s'.nonce = s.nonce ∧ s'.ctr = s.ctr ∧ exec .ctrXor s = .next t ∧ s'.state = t.state :=
  have pair : ∀ s t : State, Inv s → s.keyValid = true → exec .ctrXor s = .next t → ∃ s' : State, Inv s' ∧
      s'.keyValid = true ∧ s'.key = s.key ∧ s'.nonce = s.nonce ∧ s'.ctr = s.ctr ∧ s'.state = t.state :=
    fun s t h hk _ => ⟨{ s with state := t.state }, ⟨h.1, h.2, h.3, h.4⟩, hk, rfl, rfl, rfl, rfl⟩
  have h : Inv (expanded (blk 0) (withState (blk 5))) := inv_expanded _ _ rfl rfl rfl
  have ⟨s', h', k', e1, e2, e3, e4⟩ := pair _ _ h rfl (exec_eq_next .ctrXor _)
  ⟨_, s', _, h, h', rfl, k', e1, e2, e3, exec_eq_next .ctrXor _, e4⟩

/-- CounterIsMonotonic: no command, and two. -/
theorem witness_CounterIsMonotonic :
    (∀ i ∈ ([] : List Instr), i = .ctrGen ∨ i = .ctrXor) ∧ (∀ i ∈ [Instr.ctrXor, .ctrGen], i = .ctrGen ∨ i = .ctrXor) ∧
    (keyed0 (blk 0) (non 0) 0xFFFFFFFFFFFFFFFF).keyValid = true := by decide

/-- KeystreamDependsOnKeyNonceCounter: two states that differ in STATE, under both commands. -/
theorem witness_KeystreamDependsOnKeyNonceCounter :
    ∃ (s s' : State) (i j : Instr), (i = .ctrGen ∨ i = .ctrXor) ∧ (j = .ctrGen ∨ j = .ctrXor) ∧ i ≠ j ∧
      Inv s ∧ Inv s' ∧ s.keyValid = true ∧ s'.keyValid = true ∧ s'.key = s.key ∧ s'.nonce = s.nonce ∧ s'.ctr = s.ctr ∧
      s'.state ≠ s.state :=
  ⟨expanded (blk 0) (withState (blk 5)), expanded (blk 0) (withState (blk 6)), .ctrGen, .ctrXor, .inl rfl, .inr rfl,
    by decide, inv_expanded _ _ rfl rfl rfl, inv_expanded _ _ rfl rfl rfl,
    rfl, rfl, rfl, rfl, rfl, by decide +kernel⟩

/-- GinvIsTheUniqueInverse: the least and the greatest byte that is not 0. -/
theorem witness_GinvIsTheUniqueInverse : (0x01 : Byte) ≠ 0 ∧ gmul 0x01 0x01 = 1 ∧ (0xFF : Byte) ≠ 0 ∧
    gmul 0xFF 0x1C = 1 := by decide +kernel

/-- RegisterMapOfTheWindow: the reserved ranges' first and last offsets, and their neighbours. -/
theorem witness_RegisterMapOfTheWindow :
    ([0x054, 0x058, 0x0FC, 0x100, 0x1AC, 0x1B0, 0x1FC].map fun off => (decide (off < 0x200 ∧ off % 4 = 0), Reg.ofOffset off)) =
      [(true, some .lutData), (true, none), (true, none), (true, some (.rk 0)), (true, some (.rk 43)), (true, none),
        (true, none)] := by decide

/-- BadAccessesGetABusError: each clause at its bounds, with what BusRead answers there (vectors A-4 to A-7). -/
theorem witness_BadAccessesGetABusError :
    ∀ p ∈ [(1, 0x000), (8, 0x1FF), (4, 0x001), (4, 0x1FF), (4, 0x058), (4, 0x0FC), (4, 0x1B0), (4, 0x1FC)],
      p.2 < 0x200 ∧
      (p.1 ≠ 4 ∨ p.2 % 4 ≠ 0 ∨ (0x058 ≤ p.2 ∧ p.2 ≤ 0x0FC) ∨ (0x1B0 ≤ p.2 ∧ p.2 ≤ 0x1FC)) ∧
      (busRead p.1 p.2 State.reset).1 = { data := 0, error := true } := by decide +kernel

/-- DataRegisterWritesStoreOneWord and IdleReadsAreExact: an idle engine, and the first and last word of each value. -/
theorem witness_DataRegisterWritesStoreOneWord : State.reset.busy = false ∧
    wordOf (busWrite 4 0x010 0x01020304 State.reset).2.key 0 = 0x01020304 ∧
    wordOf (busWrite 4 0x02C 0x01020304 State.reset).2.state 3 = 0x01020304 ∧
    nonceWord (busWrite 4 0x044 0x01020304 State.reset).2.nonce 1 = 0x01020304 ∧
    (busWrite 4 0x048 0x01020304 State.reset).2.ctr = 0x0102030400000001 ∧
    (busWrite 4 0x04C 0x01020304 State.reset).2.ctr = 0x0000000001020304 := by decide +kernel

theorem witness_IdleReadsAreExact : (keyedA (blk 0)).busy = false ∧
    (busRead 4 0x100 (keyedA (blk 0))).1.data = 0x2b7e1516 ∧ (busRead 4 0x1AC (keyedA (blk 0))).1.data = 0xb6630ca6 ∧
    (busRead 4 0x04C (keyedA (blk 0))).1.data = 1 := by decide +kernel

/-- BusyWritesAreDropped: both ranges at their bounds, and the three offsets that are no hazard. -/
theorem witness_BusyWritesAreDropped : (pending .nop 1 State.reset).busy = true ∧
    (∀ off ∈ [0x00C, 0x02C, 0x040, 0x04C], off % 4 = 0 ∧
      ((0x00C ≤ off ∧ off ≤ 0x02C) ∨ (0x040 ≤ off ∧ off ≤ 0x04C)) ∧
      (busWrite 4 off 1 (pending .nop 1 State.reset)).2.errBusy = true) ∧
    (∀ off ∈ [0x004, 0x008, 0x050], off % 4 = 0 ∧ ¬((0x00C ≤ off ∧ off ≤ 0x02C) ∨ (0x040 ≤ off ∧ off ≤ 0x04C)) ∧
      (busWrite 4 off 1 (pending .nop 1 State.reset)).2.errBusy = false) := by decide +kernel

/-- BusyReadsAreDraws: each range at its bounds, with the free value read there. -/
theorem witness_BusyReadsAreDraws : (pending .nop 1 State.reset).busy = true ∧
    (∀ off ∈ [0x020, 0x03C, 0x048, 0x04C, 0x100, 0x1AC], off % 4 = 0 ∧
      ((0x020 ≤ off ∧ off ≤ 0x03C) ∨ off = 0x048 ∨ off = 0x04C ∨ (0x100 ≤ off ∧ off ≤ 0x1AC)) ∧
      (busRead 4 off (pending .nop 1 State.reset)).2.supply.draws = 45) ∧
    (busRead 4 0x1AC (pending .nop 1 State.reset)).1.data = Config.draw 44 :=
  ⟨rfl, by decide +kernel, rfl⟩

/-- ReadsHaveNoSideEffects: an idle engine, and a read without an error. -/
theorem witness_ReadsHaveNoSideEffects : State.reset.busy = false ∧ (busRead 4 0x008 State.reset).1.error = false ∧
    (busRead 4 0x058 State.reset).1.error = true := by decide +kernel

/-- HostLineMakesItsAccess, accesses: a write, a read and a poll at the window's last word, and just outside. -/
theorem witness_HostLineMakesItsAccess :
    (∀ op ∈ [HostOp.wr 4 0x1FC 5, .rd 4 0x1FC 9, .poll 0x1FC 1 0, .wr 4 0x200 5, .rd 4 0x200 9, .poll 0x200 1 0],
      (running [op] State.reset).rst = false ∧ engineCommand (running [op] State.reset) = none ∧
      hostNext (running [op] State.reset) = some op) ∧
    0x1FC < 0x200 ∧ 0x200 ≤ 0x200 := by decide +kernel

/-- A poll whose read matches moves on, and one whose read does not match stays. -/
theorem witness_poll_lines :
    (nextOf (step (running [.poll 0x008 1 0] State.reset))).map (·.host.pc) = some 1 ∧
    (nextOf (step (running [.poll 0x008 1 1] State.reset))).map (·.host.pc) = some 0 := by decide +kernel

/-- A host at the line `jnz 3, 7` at place 1, with name 3 read as given, in a program whose first and last lines are
given. -/
def jumping (names : List (Nat × Word)) (first last : HostOp) : State :=
  { State.reset with
    host := { HostAgent.idle with prog := [first, .jnz 3 7, last], pc := 1, names := names } }

/-- HostLineMakesItsAccess, lines without an access: label; jnz on an unread name, on 0, on the greatest value with its
label at the last and at the first place (where it stands twice), and with no label; rst; no line. -/
theorem witness_lines_without_access :
    hostNext (running [.label 7] State.reset) = some (.label 7) ∧
    (∀ s ∈ [jumping [] .rst (.label 7), jumping [(3, 0)] .rst (.label 7), jumping [(3, 0xFFFFFFFF)] .rst (.label 7),
        jumping [(3, 1)] (.label 7) (.label 7), jumping [(3, 1)] .rst (.label 6)],
      s.rst = false ∧ engineCommand s = none ∧ hostNext s = some (.jnz 3 7)) ∧
    step (jumping [] .rst (.label 7)) = .fault (.unreadName 3) ∧
    (nextOf (step (jumping [(3, 0)] .rst (.label 7)))).map (·.host.pc) = some 2 ∧
    (nextOf (step (jumping [(3, 0xFFFFFFFF)] .rst (.label 7)))).map (·.host.pc) = some 2 ∧
    (nextOf (step (jumping [(3, 1)] (.label 7) (.label 7)))).map (·.host.pc) = some 0 ∧
    step (jumping [(3, 1)] .rst (.label 6)) = .fault (.unknownLabel 7) ∧
    (∀ k : Nat, (jumping [(3, 1)] .rst (.label 6)).host.prog[k]? ≠ some (HostOp.label 7)) ∧
    hostNext (running [.rst] State.reset) = some .rst ∧ hostNext State.reset = none :=
  ⟨rfl, by decide +kernel, rfl, by decide +kernel, by decide +kernel, by decide +kernel, rfl,
    fun k => by match k with
      | 0 => decide
      | 1 => decide
      | 2 => decide
      | _ + 3 => exact nofun,
    rfl, rfl⟩

/-- ResetTakesPrecedence: reset during a command. -/
theorem witness_ResetTakesPrecedence :
    ({ pending .encrypt 0 (keyedA (blk 7)) with rst := true } : State).rst = true := rfl

/-- EveryStepKeepsTheInvariant: a step with a command pending. -/
theorem witness_EveryStepKeepsTheInvariant : ∃ s t : State, Inv s ∧ s.busy = true ∧ step s = .next t :=
  ⟨pending .encrypt 2 (expanded (blk 1) State.reset), _, inv_pending, rfl, rfl⟩

/-- Every error flag up, and the host's next line clears them all. -/
def clearing : State :=
  running [.wr 4 0x008 0x000000FE]
    { State.reset with errBusy := true, errCmd := true, errNokey := true, ctrWrap := true, errBus := true }

/-- ErrorFlagsAreSticky: a step that lowers all five flags, from the lowest to the highest. -/
theorem witness_ErrorFlagsAreSticky : ∃ t, step clearing = .next t ∧ clearing.rst = false ∧ engineCommand clearing = none ∧
    ∀ n ∈ [3, 4, 5, 6, 7], (statusWord clearing).getLsbD n = true ∧ (statusWord t).getLsbD n = false :=
  ⟨_, rfl, rfl, rfl, by decide +kernel⟩

/-- DoneRisesOnCompletionOrRejection: by a completion, and by a rejection. -/
theorem witness_DoneRisesOnCompletionOrRejection :
    (∃ t, step (pending .nop 0 State.reset) = .next t ∧ (pending .nop 0 State.reset).done = false ∧ t.done = true) ∧
    (∃ t, step (running [.wr 4 0x00C 0x00000006] State.reset) = .next t ∧ State.reset.rst = false ∧
      State.reset.done = false ∧ t.done = true ∧ t.busy = false) :=
  ⟨⟨_, rfl, rfl, rfl⟩, ⟨_, rfl, rfl, rfl, rfl, rfl⟩⟩

/-- KeyValidAndScheduleChangeOnlyAsStated: KEY_VALID rises and the RAM changes; KEY_VALID falls by the last KEY word. -/
theorem witness_KeyValidAndScheduleChangeOnlyAsStated :
    (∃ t, step (pending .keyExpand 0 { State.reset with rk := sched0, key := blk 1 }) = .next t ∧ t.keyValid = true ∧
      t.rk ≠ sched0) ∧
    (∃ t, step (running [.wr 4 0x01C 0] (keyedA (blk 0))) = .next t ∧ (keyedA (blk 0)).keyValid = true ∧
      t.keyValid = false) :=
  ⟨⟨_, rfl, rfl, by decide +kernel⟩, ⟨_, rfl, rfl, rfl⟩⟩

/-- UnwrittenScheduleIsUnobservable: KEY_VALID = 0, in steps that go on (one of them a read of RK_W0, one a KEY_EXPAND)
and one that stops. -/
theorem witness_UnwrittenScheduleIsUnobservable :
    (∃ t, step (running [.rd 4 0x100 1] State.reset) = .next t ∧ State.reset.keyValid = false) ∧
    (∃ t, step (pending .keyExpand 0 State.reset) = .next t ∧ t.keyValid = true) ∧
    step (running [.rd 4 0x200 1] State.reset) = .fault (.outsideWindow 0x200) :=
  ⟨⟨_, rfl, rfl⟩, ⟨_, rfl, rfl⟩, rfl⟩

/-- PendingCommandDrawsNearer: at latency 0 and at latency 1. -/
theorem witness_PendingCommandDrawsNearer :
    (∃ t, step (pending .nop 0 State.reset) = .next t ∧ (pending .nop 0 State.reset).busy = true ∧
      (pending .nop 0 State.reset).pend = some .nop ∧ (pending .nop 0 State.reset).rst = false ∧ t.busy = false) ∧
    (∃ t, step (pending .nop 1 State.reset) = .next t ∧ (pending .nop 1 State.reset).busy = true ∧
      (pending .nop 1 State.reset).pend = some .nop ∧ (pending .nop 1 State.reset).rst = false ∧ t.latency = 0) :=
  ⟨⟨_, rfl, rfl, rfl, rfl, rfl⟩, ⟨_, rfl, rfl, rfl, rfl, rfl⟩⟩

/-- RunEndsWithTheCommandsEffect: a command that needs the key, as the whole program, and one in its middle. -/
theorem witness_RunEndsWithTheCommandsEffect :
    (let s := running (runLines .encrypt) (keyedA (blk 0))
     s.rst = false ∧ Idle s ∧ s.host.stopped = false ∧ (Instr.encrypt.needsKey = true → s.keyValid = true) ∧
      s.host.prog = [] ++ runLines .encrypt ++ [] ∧ s.host.pc = ([] : List HostOp).length) ∧
    (let s := { State.reset with host := { HostAgent.idle with prog := [.label 1] ++ runLines .nop ++ [.label 2], pc := 1 } }
     s.rst = false ∧ Idle s ∧ s.host.stopped = false ∧ (Instr.nop.needsKey = true → s.keyValid = true) ∧
      s.host.prog = [.label 1] ++ runLines .nop ++ [.label 2] ∧ s.host.pc = [HostOp.label 1].length) := by
  unfold Idle; decide +kernel

/-- DutifulHostNeverSetsErrBusy: a host that polls STATUS while a command runs. -/
theorem witness_DutifulHostNeverSetsErrBusy : ∃ t, KeepsDuty (pending .nop 1 (running waitLines State.reset)) ∧
    (pending .nop 1 (running waitLines State.reset)).rst = false ∧
    step (pending .nop 1 (running waitLines State.reset)) = .next t ∧
    (pending .nop 1 (running waitLines State.reset)).errBusy = false :=
  ⟨_, fun _ op h => by cases (Option.some.inj h : _ = op); rfl, rfl, rfl, rfl⟩

/-- StreamErrorsBeforeAnyOutput: each clause at its bound: 24 bytes, 26 bytes, a padding byte of 16; an input of one byte. -/
theorem witness_StreamErrorsBeforeAnyOutput :
    (List.replicate 24 (0 : Byte)).length < 25 ∧ ((List.replicate 26 (0 : Byte)).length - 9) % 16 ≠ 0 ∧
    15 < ((List.replicate 8 (0 : Byte) ++ [0x10] ++ List.replicate 16 0).getD 8 0).toNat ∧ ([0x61] : List Byte) ≠ [] := by
  decide

/-- EncryptStreamIsTheKeystreamSum and DecryptStreamInvertsEncryptStream: reset is idle and without error flags. -/
theorem witness_EncryptStreamIsTheKeystreamSum : Idle State.reset ∧ NoErrors State.reset ∧ ([0x61] : List Byte) ≠ [] :=
  ⟨⟨rfl, rfl⟩, ⟨rfl, rfl, rfl, rfl⟩, by decide⟩

/-- OutputDoesNotDependOnBufferSize: the least buffer and a large one. -/
theorem witness_OutputDoesNotDependOnBufferSize : (16 ≤ 16 ∧ 16 ∣ 16) ∧ (16 ≤ 4096 ∧ 16 ∣ 4096) := by decide

end Sys2Proof.Tests
end

section
/-! SUPPORT. The five sticky error flags: which operations keep each flag that is up, and what the one that does not,
the host's STATUS write, lowers (10_state.md R25, R36). -/

namespace Sys2Proof.Machine

/-- STATUS bit by bit (R24). -/
theorem statusWord_getLsbD (s : State) (i : Nat) :
    (statusWord s).getLsbD i =
      [s.busy, s.done, s.keyValid, s.errBusy, s.errCmd, s.errNokey, s.ctrWrap, s.errBus].getD i false := by
  simp only [statusWord, BitVec.getLsbD_append]
  match i with
  | 0 | 1 | 2 | 3 | 4 | 5 | 6 | 7 => simp
  | n + 8 => simp

@[simp] theorem statusWord_getElem_three (s : State) : (statusWord s)[3] = s.errBusy := statusWord_getLsbD s 3
@[simp] theorem statusWord_getElem_four (s : State) : (statusWord s)[4] = s.errCmd := statusWord_getLsbD s 4
@[simp] theorem statusWord_getElem_five (s : State) : (statusWord s)[5] = s.errNokey := statusWord_getLsbD s 5
@[simp] theorem statusWord_getElem_six (s : State) : (statusWord s)[6] = s.ctrWrap := statusWord_getLsbD s 6
@[simp] theorem statusWord_getElem_seven (s : State) : (statusWord s)[7] = s.errBus := statusWord_getLsbD s 7

/-- Every error flag that is up in `s` is up in `t` (R36). -/
structure ErrorFlagsKept (s t : State) : Prop where
  errBusy  : s.errBusy = true → t.errBusy = true
  errCmd   : s.errCmd = true → t.errCmd = true
  errNokey : s.errNokey = true → t.errNokey = true
  ctrWrap  : s.ctrWrap = true → t.ctrWrap = true
  errBus   : s.errBus = true → t.errBus = true

/-- The same in terms of bits 3 to 7 of STATUS (R24). -/
theorem ErrorFlagsKept.statusWord_getLsbD {s t : State} (h : ErrorFlagsKept s t) :
    ∀ n ∈ [3, 4, 5, 6, 7], (statusWord s).getLsbD n = true → (statusWord t).getLsbD n = true := by
  simpa using ⟨h.errBusy, h.errCmd, h.errNokey, h.ctrWrap, h.errBus⟩

/-- A completion keeps every flag: CTR_WRAP and ERR_NOKEY are all it writes, and it only raises them (R212, log 3). -/
theorem exec_errorFlagsKept {i : Instr} {s t : State} (h : exec i s = .next t) : ErrorFlagsKept s t := by
  obtain ⟨_, _, rfl⟩ | ⟨_, he⟩ := exec_next_cases h
  · exact ⟨id, id, fun _ => rfl, id, id⟩
  · have hw := he.wrapSticks
    rw [he.frame]
    exact ⟨id, id, id, hw, id⟩

/-- A write to CMD only raises flags, whether it drops, rejects or accepts the word (R95). -/
theorem writeCmd_errorFlagsKept (v : Word) (s : State) : ErrorFlagsKept s (writeCmd v s) := by
  obtain ⟨_, e⟩ | ⟨_, _, e⟩ | ⟨_, _, _, _, _, e⟩ | ⟨_, _, _, _, e⟩ := writeCmd_cases v s <;> rw [e]
  · exact ⟨fun _ => rfl, id, id, id, id⟩
  · exact ⟨id, fun _ => rfl, id, id, id⟩
  · exact ⟨id, id, fun _ => rfl, id, id⟩
  · exact ⟨id, id, id, id, id⟩

/-- STATUS is the one register whose write lowers a flag (R25). -/
theorem writeReg_errorFlagsKept (v : Word) (s : State) {r : Reg} (hr : r ≠ .status) :
    ErrorFlagsKept s (writeReg v s r) := by
  cases r with
  | status => exact absurd rfl hr
  | cmd => exact writeCmd_errorFlagsKept v s
  | id | ctrl | key | state | ks | nonce | ctrHi | ctrLo | lutAddr | lutData | rk =>
    simp only [writeReg]
    exact ⟨id, id, id, id, id⟩

/-- A bus write keeps every flag, or it is a 32-bit write to STATUS and clears the flags it names. -/
theorem busWrite_errorFlags_cases (size off : Nat) (v : Word) (s : State) :
    ErrorFlagsKept s (busWrite size off v s).2 ∨
      size = 4 ∧ off = 0x008 ∧ (busWrite size off v s).2 = clearFlags v s := by
  obtain ⟨_, e⟩ | ⟨_, _, _, _, e⟩ | ⟨r, ht, _, e⟩ := busWrite_state_cases size off v s <;> rw [e]
  · exact .inl ⟨id, id, id, id, fun _ => rfl⟩
  · exact .inl ⟨fun _ => rfl, id, id, id, id⟩
  · by_cases hr : r = .status
    · subst hr
      obtain ⟨hs, ho⟩ := busTarget_eq_some.1 ht
      exact .inr ⟨hs, ho, rfl⟩
    · exact .inl (writeReg_errorFlagsKept v s hr)

/-- A step without reset keeps every flag, or it is the host's 32-bit write to STATUS and leaves STATUS as that write's
clearing does. -/
theorem step_errorFlags_cases {s t : State} (hr : s.rst = false) (h : step s = .next t) :
    ErrorFlagsKept s t ∨
      engineCommand s = none ∧
        ∃ v, hostNext s = some (.wr 4 0x008 v) ∧ statusWord t = statusWord (clearFlags v s) := by
  obtain ⟨i, _, hx⟩ | ⟨he, ⟨b, hb, e⟩ | ⟨size, off, v, hn, e⟩⟩ := step_engine_cases hr h
  · exact .inl (exec_errorFlagsKept hx)
  · rw [e]
    exact .inl ⟨id, id, id, id, hb⟩
  · obtain hk | ⟨rfl, rfl, hc⟩ := busWrite_errorFlags_cases size off v (passTurn s)
    · rw [e]
      exact .inl ⟨hk.errBusy, hk.errCmd, hk.errNokey, hk.ctrWrap, hk.errBus⟩
    · refine .inr ⟨he, v, hn, ?_⟩
      rw [e, hc]
      rfl

/-- The W1C clearing of an error flag, bit by bit (R25). -/
theorem statusWord_clearFlags_getLsbD (v : Word) (s : State) :
    ∀ n ∈ [3, 4, 5, 6, 7],
      (statusWord (clearFlags v s)).getLsbD n = ((statusWord s).getLsbD n && !v.getLsbD n) := by
  simp

/-- Settles O49: a step without reset keeps every error flag unless it is the host's STATUS write, and that write lowers
only the flags whose bit it has 1. -/
theorem errorFlagsAreSticky : Obligations.ErrorFlagsAreSticky := by
  intro s t h hr n hn hs ht
  obtain hk | ⟨he, v, hw, e⟩ := step_errorFlags_cases hr h
  · simp [hk.statusWord_getLsbD n hn hs] at ht
  · rw [e, statusWord_clearFlags_getLsbD v s n hn, hs] at ht
    exact ⟨he, v, hw, by simpa using ht⟩

end Sys2Proof.Machine
end

section
/-! SUPPORT. The bus checks of an access: width, alignment, reserved offsets (20_memory.md R62 to R64). -/

namespace Sys2Proof.Machine

/-- Settles O35: an access that fails a bus check reaches no register, so it has the error response and ERR_BUS as its
whole effect (R262). -/
theorem badAccessesGetABusError : Obligations.BadAccessesGetABusError := by
  intro size off v s _ hbad
  have ht : busTarget size off = none := busTarget_eq_none.2 (by omega)
  rw [busRead_none s ht, busWrite_none v s ht]
  exact ⟨rfl, rfl, rfl⟩

end Sys2Proof.Machine
end

section
/-! SUPPORT. The decoder by the fields of a word: it accepts exactly the words whose fields are a command's, which are
the well-formed ones and the encodings of the 23 commands (30_encoding.md R90 to R94, R98, R100). -/

namespace Sys2Proof

/-! ### The fields of a word and of a command -/

/-- The fields of a command's word: its OP, its ROUND, and RSVD = 0 (R90 to R93). -/
def Instr.fields (i : Instr) : CmdFields := { op := i.op, round := i.round, rsvd := 0 }

theorem CmdFields.ext {f g : CmdFields} (hop : f.op = g.op) (hround : f.round = g.round) (hrsvd : f.rsvd = g.rsvd) :
    f = g := by
  cases f
  cases g
  simp_all

/-- OP, ROUND and RSVD are all 32 bits of a word (R90). -/
theorem CmdFields.ofWord_injective : Function.Injective CmdFields.ofWord := by
  intro v w h
  obtain ⟨hop, hround, hrsvd⟩ := CmdFields.mk.inj h
  have split (u : Word) : u = rsvdOf u ++ roundOf u ++ opOf u := by
    ext k hk
    grind [rsvdOf, roundOf, opOf]
  rw [split v, split w, hop, hround, hrsvd]

/-- The per-instruction laws of encoding, for every command. -/
theorem Laws.Encoding.statement : ∀ i : Instr, Statement i
  | .nop => nop
  | .keyExpand => keyExpand
  | .encrypt => encrypt
  | .decrypt => decrypt
  | .ctrGen => ctrGen
  | .ctrXor => ctrXor
  | .subBytes => subBytes
  | .invSubBytes => invSubBytes
  | .shiftRows => shiftRows
  | .invShiftRows => invShiftRows
  | .mixColumns => mixColumns
  | .invMixColumns => invMixColumns
  | .addRoundKey0 => addRoundKey0
  | .addRoundKey1 => addRoundKey1
  | .addRoundKey2 => addRoundKey2
  | .addRoundKey3 => addRoundKey3
  | .addRoundKey4 => addRoundKey4
  | .addRoundKey5 => addRoundKey5
  | .addRoundKey6 => addRoundKey6
  | .addRoundKey7 => addRoundKey7
  | .addRoundKey8 => addRoundKey8
  | .addRoundKey9 => addRoundKey9
  | .addRoundKey10 => addRoundKey10

theorem ofWord_encode (i : Instr) : CmdFields.ofWord (encode i) = i.fields := (Laws.Encoding.statement i).1

theorem Instr.fields_wellFormed (i : Instr) : i.fields.wellFormed = true :=
  ofWord_encode i ▸ (Laws.Encoding.statement i).2

/-- The three checks in words: RSVD is 0, OP is assigned, ROUND is legal for OP (R92, R93, R98). -/
theorem CmdFields.wellFormed_iff {f : CmdFields} :
    f.wellFormed = true ↔
      f.rsvd = 0 ∧ (f.op.toNat ≤ 0x05 ∨ 0x10 ≤ f.op.toNat ∧ f.op.toNat ≤ 0x16) ∧
        (if f.op = 0x16 then f.round.toNat ≤ 10 else f.round = 0) := by
  have hround : f.roundLegal = true ↔ (if f.op = 0x16 then f.round.toNat ≤ 10 else f.round = 0) := by
    unfold roundLegal
    split <;> simp
  simp [wellFormed, rsvdZero, opAssigned, hround, and_assoc]

/-- Only ADD_ROUND_KEY has an operand (R92). -/
theorem Instr.round_eq_zero {i : Instr} (h : i.op ≠ 0x16) : i.round = 0 := by
  revert h
  cases i <;> decide

/-! ### The two tables of the decoder -/

/-- The commands without an operand are those whose OP is not ADD_ROUND_KEY's (R91). -/
theorem plainCommand_eq_some {op : Byte} {i : Instr} : plainCommand op = some i ↔ i.op = op ∧ op ≠ 0x16 := by
  constructor
  · intro h
    unfold plainCommand at h
    split at h
    case h_13 => cases h
    all_goals
      next hop =>
        obtain rfl := Option.some.inj h
        simp [← BitVec.toNat_inj, hop, Instr.op]
  · rintro ⟨rfl, hop⟩
    revert hop
    cases i <;> decide

/-- ADD_ROUND_KEY r is the command with its OP and ROUND = r (R92). -/
theorem addRoundKeyCommand_eq_some {r : Nat} {i : Instr} :
    addRoundKeyCommand r = some i ↔ i.op = 0x16 ∧ i.round.toNat = r := by
  constructor
  · intro h
    unfold addRoundKeyCommand at h
    split at h
    case h_12 => cases h
    all_goals
      obtain rfl := Option.some.inj h
      exact ⟨rfl, rfl⟩
  · rintro ⟨hop, rfl⟩
    revert hop
    cases i <;> decide

theorem exists_plainCommand {op : Byte} (h : op.toNat ≤ 0x05 ∨ 0x10 ≤ op.toNat ∧ op.toNat ≤ 0x15) :
    ∃ i, plainCommand op = some i := by
  unfold plainCommand
  generalize op.toNat = n at h ⊢
  obtain h | ⟨_, h⟩ := h <;> interval_cases n <;> exact ⟨_, rfl⟩

theorem exists_addRoundKeyCommand {r : Nat} (h : r ≤ 10) : ∃ i, addRoundKeyCommand r = some i := by
  interval_cases r <;> exact ⟨_, rfl⟩

/-! ### Decoding by the fields -/

/-- The fields that pass the three checks are exactly those of a command (R94). -/
theorem exists_fields_eq_iff {f : CmdFields} : (∃ i : Instr, f = i.fields) ↔ f.wellFormed = true := by
  constructor
  · rintro ⟨i, rfl⟩
    exact i.fields_wellFormed
  · intro h
    obtain ⟨hrsvd, hop, hround⟩ := CmdFields.wellFormed_iff.1 h
    by_cases hark : f.op = 0x16
    · rw [if_pos hark] at hround
      obtain ⟨i, hi⟩ := exists_addRoundKeyCommand hround
      obtain ⟨hiop, hiround⟩ := addRoundKeyCommand_eq_some.1 hi
      exact ⟨i, CmdFields.ext (hark.trans hiop.symm) (BitVec.toNat_inj.1 hiround).symm hrsvd⟩
    · rw [if_neg hark] at hround
      obtain ⟨i, hi⟩ := exists_plainCommand (op := f.op) (by bv_omega)
      obtain ⟨hiop, _⟩ := plainCommand_eq_some.1 hi
      have hi0 : i.round = 0 := Instr.round_eq_zero (hiop ▸ hark)
      exact ⟨i, CmdFields.ext hiop.symm (hround.trans hi0.symm) hrsvd⟩

/-- What the decoder accepts, by its two tables (R94). -/
theorem decode_eq_ok_iff_tables {v : Word} {i : Instr} :
    decode v = .ok i ↔
      CmdFields.rsvdOf v = 0 ∧
        (CmdFields.opOf v = 0x16 ∧ addRoundKeyCommand (CmdFields.roundOf v).toNat = some i ∨
          CmdFields.roundOf v = 0 ∧ plainCommand (CmdFields.opOf v) = some i) := by
  unfold decode
  by_cases hrsvd : CmdFields.rsvdOf v = 0
  · rw [if_neg (not_not.2 hrsvd), and_iff_right hrsvd]
    by_cases hark : CmdFields.opOf v = 0x16
    · have hplain : plainCommand 0x16 = none := rfl
      rw [if_pos hark, hark, hplain]
      cases addRoundKeyCommand (CmdFields.roundOf v).toNat <;> simp
    · rw [if_neg hark, or_iff_right fun h => hark h.1]
      cases plainCommand (CmdFields.opOf v) with
      | none => simp
      | some j =>
        dsimp only
        by_cases hround : CmdFields.roundOf v = 0
        · simp [hround]
        · rw [if_pos hround]
          exact ⟨nofun, fun h => absurd h.1 hround⟩
  · rw [if_pos hrsvd]
    exact ⟨nofun, fun h => absurd h.1 hrsvd⟩

/-- The decoder answers the command that has the word's fields (R94). -/
theorem decode_eq_ok_iff {v : Word} {i : Instr} : decode v = .ok i ↔ CmdFields.ofWord v = i.fields := by
  rw [decode_eq_ok_iff_tables, addRoundKeyCommand_eq_some, plainCommand_eq_some, BitVec.toNat_inj]
  simp only [CmdFields.ofWord, Instr.fields, CmdFields.mk.injEq]
  constructor
  · rintro ⟨hrsvd, ⟨hop, hiop, hround⟩ | ⟨hround, hop, hark⟩⟩
    · exact ⟨hop.trans hiop.symm, hround.symm, hrsvd⟩
    · exact ⟨hop.symm, hround.trans (Instr.round_eq_zero (hop ▸ hark)).symm, hrsvd⟩
  · rintro ⟨hop, hround, hrsvd⟩
    rw [hop, hround]
    by_cases hark : i.op = 0x16
    · exact ⟨hrsvd, .inl ⟨hark, hark, rfl⟩⟩
    · exact ⟨hrsvd, .inr ⟨Instr.round_eq_zero hark, rfl, hark⟩⟩

/-- Decode and encode are inverse (R94, R100). -/
theorem decode_eq_ok_iff_eq_encode {v : Word} {i : Instr} : decode v = .ok i ↔ v = encode i := by
  rw [decode_eq_ok_iff, ← ofWord_encode, CmdFields.ofWord_injective.eq_iff]

/-- The decoder accepts exactly the words whose fields pass the three checks (R94). -/
theorem exists_decode_eq_ok_iff {v : Word} : (∃ i, decode v = .ok i) ↔ (CmdFields.ofWord v).wellFormed = true := by
  simp only [decode_eq_ok_iff, exists_fields_eq_iff]

theorem encode_injective : Function.Injective encode := by
  intro i j h
  have hi : decode (encode i) = .ok i := decode_eq_ok_iff_eq_encode.2 rfl
  exact Except.ok.inj (hi.symm.trans (decode_eq_ok_iff_eq_encode.2 h))

/-! ### The 23 commands -/

/-- The commands, in the order of R91. -/
def allCommands : List Instr :=
  [.nop, .keyExpand, .encrypt, .decrypt, .ctrGen, .ctrXor, .subBytes, .invSubBytes, .shiftRows, .invShiftRows,
    .mixColumns, .invMixColumns, .addRoundKey0, .addRoundKey1, .addRoundKey2, .addRoundKey3, .addRoundKey4,
    .addRoundKey5, .addRoundKey6, .addRoundKey7, .addRoundKey8, .addRoundKey9, .addRoundKey10]

theorem mem_allCommands (i : Instr) : i ∈ allCommands := by cases i <;> decide

theorem nodup_allCommands : allCommands.Nodup := by decide

/-- The valid words are the encodings of the commands (R94). -/
theorem exists_decode_eq_ok_iff_mem {v : Word} : (∃ i, decode v = .ok i) ↔ v ∈ allCommands.map encode := by
  simp [decode_eq_ok_iff_eq_encode, mem_allCommands, eq_comm (a := v)]

theorem needsKey_iff (i : Instr) :
    i.needsKey = true ↔ i.op = 0x02 ∨ i.op = 0x03 ∨ i.op = 0x04 ∨ i.op = 0x05 ∨ i.op = 0x16 := by
  cases i <;> decide

/-- Settles O2: a word is accepted when its fields are well formed, the command has the word's fields, and the valid
words are the encodings of the 23 commands, which differ pairwise. -/
theorem decodeFollowsTheFieldChecks : Obligations.DecodeFollowsTheFieldChecks := by
  refine ⟨fun v => exists_decode_eq_ok_iff.trans CmdFields.wellFormed_iff, fun v i h => ?_, needsKey_iff,
    allCommands.map encode, rfl, nodup_allCommands.map encode_injective, fun v => exists_decode_eq_ok_iff_mem⟩
  obtain ⟨hop, hround, _⟩ := CmdFields.mk.inj (decode_eq_ok_iff.1 h)
  exact ⟨hop.symm, hround.symm⟩

end Sys2Proof
end

section
/-! SUPPORT. Multiplication in GF(2^8) as a ring: a map that commutes with xor and with xtime commutes with
multiplication, and the laws of the product are instances of that (40_gf_tables.md R111 to R113). -/

namespace Sys2Proof.Machine

/-! ### xtime and the loop of R113 -/

/-- Multiplication by x is linear: the shift is, and so is the reduction, which depends on bit 7 alone (R112). -/
theorem xtime_xor (a b : Byte) : xtime (a ^^^ b) = xtime a ^^^ xtime b := by
  have hreduce (p q : Bool) : (if p ^^ q then 0x1B else 0x00 : Byte) =
      (if p then 0x1B else 0x00) ^^^ (if q then 0x1B else 0x00) := by
    cases p <;> cases q <;> rfl
  unfold xtime
  rw [BitVec.shiftLeft_xor_distrib, BitVec.getLsbD_xor, hreduce]
  ac_rfl

/-- The loop is linear in the multiplicand and the product so far, taken together. -/
theorem gmulLoop_xor (n : Nat) (a a' b p p' : Byte) :
    gmulLoop n (a ^^^ a') b (p ^^^ p') = gmulLoop n a b p ^^^ gmulLoop n a' b p' := by
  induction n generalizing a a' b p p' with
  | zero => rfl
  | succ n ih =>
    simp only [gmulLoop, xtime_xor, ← ih]
    split
    · congr 1
      ac_rfl
    · rfl

/-- The loop commutes with every map that commutes with its two operations, xor and xtime. -/
theorem map_gmulLoop {f : Byte → Byte} (hxor : ∀ a b, f (a ^^^ b) = f a ^^^ f b)
    (hxtime : ∀ a, f (xtime a) = xtime (f a)) (n : Nat) (a b p : Byte) :
    f (gmulLoop n a b p) = gmulLoop n (f a) b (f p) := by
  induction n generalizing a b p with
  | zero => rfl
  | succ n ih => simp only [gmulLoop, ih, hxtime, apply_ite f, hxor]

/-! ### The laws of the product -/

theorem map_gmul {f : Byte → Byte} (hxor : ∀ a b, f (a ^^^ b) = f a ^^^ f b)
    (hxtime : ∀ a, f (xtime a) = xtime (f a)) (a b : Byte) : f (gmul a b) = gmul (f a) b := by
  have hzero : f 0 = 0 := by simpa using hxor 0 0
  rw [gmul, map_gmulLoop hxor hxtime, hzero, gmul]

theorem xor_gmul (a b c : Byte) : gmul (a ^^^ b) c = gmul a c ^^^ gmul b c := gmulLoop_xor 8 a b c 0 0

theorem xtime_gmul (a b : Byte) : gmul (xtime a) b = xtime (gmul a b) := (map_gmul xtime_xor (fun _ => rfl) a b).symm

@[simp] theorem zero_gmul (a : Byte) : gmul 0#8 a = 0#8 := by simpa using xor_gmul 0 0 a

@[simp] theorem one_gmul (a : Byte) : gmul 1#8 a = a := by
  revert a
  decide +kernel

/-- Multiplication by a constant on the right commutes with xor and xtime, hence with multiplication. -/
theorem gmul_right_comm (a b c : Byte) : gmul (gmul a b) c = gmul (gmul a c) b :=
  map_gmul (f := (gmul · c)) (xor_gmul · · c) (xtime_gmul · c) a b

theorem gmul_comm (a b : Byte) : gmul a b = gmul b a := by simpa using gmul_right_comm 1 a b

theorem gmul_assoc (a b c : Byte) : gmul (gmul a b) c = gmul a (gmul b c) := by
  rw [gmul_comm a, gmul_right_comm, gmul_comm]

theorem gmul_xor (a b c : Byte) : gmul a (b ^^^ c) = gmul a b ^^^ gmul a c := by
  simp only [gmul_comm a, xor_gmul]

theorem gmul_xtime (a b : Byte) : gmul a (xtime b) = xtime (gmul a b) := by
  rw [gmul_comm, xtime_gmul, gmul_comm]

@[simp] theorem gmul_zero (a : Byte) : gmul a 0#8 = 0#8 := by rw [gmul_comm, zero_gmul]

@[simp] theorem gmul_one (a : Byte) : gmul a 1#8 = a := by rw [gmul_comm, one_gmul]

end Sys2Proof.Machine
end

section
/-! SUPPORT. The inverse in GF(2^8): the search of `ginv` finds it, since the listed S-box, with its affine map undone,
gives one (40_gf_tables.md R114, R122). -/

namespace Sys2Proof.Machine

/-! ### The search -/

/-- The search finds an inverse when there is one below its bound. -/
theorem gmul_ginvSearch {a b : Byte} (hab : gmul a b = 1) {n : Nat} (hb : b.toNat < n) :
    gmul a (ginvSearch a n) = 1 := by
  induction n with
  | zero => omega
  | succ n ih =>
    unfold ginvSearch
    split
    next h => exact h
    next h =>
      have hne : b.toNat ≠ n := by
        rintro rfl
        exact h (by rwa [BitVec.ofNat_toNat, BitVec.setWidth_eq])
      exact ih (by omega)

/-- No product by 0 is 1, so the search for an inverse of 0 finds none. -/
theorem ginvSearch_zero (n : Nat) : ginvSearch 0#8 n = 0#8 := by
  induction n with
  | zero => rfl
  | succ n ih => simpa [ginvSearch] using ih

@[simp] theorem ginv_zero : ginv 0#8 = 0#8 := ginvSearch_zero 256

/-! ### Every byte but 0 has one inverse -/

/-- Undoing the affine map of R122 on the listed S-box gives inverses. -/
theorem gmul_invAffine_sbox : ∀ a : Byte, a ≠ 0 → gmul a (invAffine (sbox a)) = 1 := by decide +kernel

theorem gmul_ginv {a : Byte} (ha : a ≠ 0) : gmul a (ginv a) = 1 :=
  gmul_ginvSearch (gmul_invAffine_sbox a ha) (BitVec.isLt _)

theorem gmul_eq_one_iff {a b : Byte} (ha : a ≠ 0) : gmul a b = 1 ↔ b = ginv a := by
  constructor
  · intro hab
    calc b = gmul b (gmul a (ginv a)) := by simp [gmul_ginv ha]
      _ = gmul (gmul a b) (ginv a) := by rw [← gmul_assoc, gmul_comm b]
      _ = ginv a := by simp [hab]
  · rintro rfl
    exact gmul_ginv ha

/-- Settles O29: 0 has no inverse, so its search falls through to 0, and every other byte has exactly one. -/
theorem ginvIsTheUniqueInverse : Obligations.GinvIsTheUniqueInverse :=
  ⟨ginv_zero, fun _ ha _ => gmul_eq_one_iff ha⟩

/-! ### The inverse as a map -/

@[simp] theorem ginv_ginv (a : Byte) : ginv (ginv a) = a := by
  by_cases ha : a = 0
  · simp [ha]
  · have hinv : ginv a ≠ 0 := by
      intro h
      simpa [h] using gmul_ginv ha
    exact ((gmul_eq_one_iff hinv).1 (by rw [gmul_comm, gmul_ginv ha])).symm

/-- Multiplication by a constant that is not 0 is a permutation, and multiplication by its inverse undoes it. -/
theorem gmul_right_bijective {k : Byte} (hk : k ≠ 0) : Function.Bijective (gmul · k) := by
  refine Function.bijective_iff_has_inverse.2 ⟨(gmul · (ginv k)), fun x => ?_, fun x => ?_⟩
  · simp [gmul_assoc, gmul_ginv hk]
  · simp [gmul_assoc, gmul_comm (ginv k), gmul_ginv hk]

end Sys2Proof.Machine
end

section
/-! SUPPORT. The eight listed tables by their formulas and as permutations (40_gf_tables.md R115 to R125, R130). -/

namespace Sys2Proof.Machine

/-! ### The multiply tables -/

theorem multiplyTables_eq_gmul :
    (∀ x, mul2 x = gmul x 2) ∧ (∀ x, mul3 x = gmul x 3) ∧ (∀ x, mul9 x = gmul x 9) ∧ (∀ x, mul11 x = gmul x 11) ∧
      (∀ x, mul13 x = gmul x 13) ∧ ∀ x, mul14 x = gmul x 14 := by
  decide +kernel

/-- The constants are sums of powers of x, so the products are sums of xtime terms. -/
theorem gmul_eq_xtime_sums (x : Byte) :
    gmul x 2 = xtime x ∧ gmul x 3 = xtime x ^^^ x ∧ gmul x 9 = xtime (xtime (xtime x)) ^^^ x ∧
      gmul x 11 = xtime (xtime (xtime x)) ^^^ xtime x ^^^ x ∧
      gmul x 13 = xtime (xtime (xtime x)) ^^^ xtime (xtime x) ^^^ x ∧
      gmul x 14 = xtime (xtime (xtime x)) ^^^ xtime (xtime x) ^^^ xtime x := by
  have h2 : (2 : Byte) = xtime 1 := rfl
  have h3 : (3 : Byte) = xtime 1 ^^^ 1 := rfl
  have h9 : (9 : Byte) = xtime (xtime (xtime 1)) ^^^ 1 := rfl
  have h11 : (11 : Byte) = xtime (xtime (xtime 1)) ^^^ xtime 1 ^^^ 1 := rfl
  have h13 : (13 : Byte) = xtime (xtime (xtime 1)) ^^^ xtime (xtime 1) ^^^ 1 := rfl
  have h14 : (14 : Byte) = xtime (xtime (xtime 1)) ^^^ xtime (xtime 1) ^^^ xtime 1 := rfl
  rw [h2, h3, h9, h11, h13, h14]
  simp [gmul_xor, gmul_xtime]

/-- Settles O30: the products by comparing the lists, and the sums from the laws of the product. -/
theorem multiplyTablesAreProducts : Obligations.MultiplyTablesAreProducts := by
  intro x
  obtain ⟨h2, h3, h9, h11, h13, h14⟩ := multiplyTables_eq_gmul
  obtain ⟨s2, s3, s9, s11, s13, s14⟩ := gmul_eq_xtime_sums x
  exact ⟨h2 x, h3 x, h9 x, h11 x, h13 x, h14 x, (h2 x).trans s2, (h3 x).trans s3, (h9 x).trans s9, (h11 x).trans s11,
    (h13 x).trans s13, (h14 x).trans s14⟩

/-- The six tables, each with its constant k and its value at 0xFF (R130). -/
def multiplyTables : List ((Byte → Byte) × Byte × Byte) :=
  [(mul2, 2, 0xE5), (mul3, 3, 0x1A), (mul9, 9, 0x46), (mul11, 11, 0xA3), (mul13, 13, 0x97), (mul14, 14, 0x8D)]

theorem multiplyTables_products_and_corners :
    ∀ p ∈ multiplyTables, p.2.1 ≠ 0 ∧ (∀ x, p.1 x = gmul x p.2.1) ∧ p.1 0xFF = p.2.2 := by
  obtain ⟨h2, h3, h9, h11, h13, h14⟩ := multiplyTables_eq_gmul
  simp only [multiplyTables, List.forall_mem_cons]
  exact ⟨⟨by decide, h2, rfl⟩, ⟨by decide, h3, rfl⟩, ⟨by decide, h9, rfl⟩, ⟨by decide, h11, rfl⟩, ⟨by decide, h13, rfl⟩,
    ⟨by decide, h14, rfl⟩, nofun⟩

/-- A table of products by a constant that is not 0 is a permutation, linear over xor, and has 0 and the constant at 0
and 1 (R130). -/
theorem bijective_and_linear_of_eq_gmul {f : Byte → Byte} {k : Byte} (hk : k ≠ 0) (hf : ∀ x, f x = gmul x k) :
    Function.Bijective f ∧ (∀ a b, f (a ^^^ b) = f a ^^^ f b) ∧ f 0 = 0 ∧ f 1 = k := by
  obtain rfl : f = (gmul · k) := funext hf
  exact ⟨gmul_right_bijective hk, fun a b => xor_gmul a b k, zero_gmul k, one_gmul k⟩

/-! ### The substitution boxes -/

theorem affine_invAffine : ∀ y : Byte, affine (invAffine y) = y := by decide +kernel

/-- Undoing the affine map on the listed S-box gives the inverse, for 0 too (R122). -/
theorem invAffine_sbox (x : Byte) : invAffine (sbox x) = ginv x := by
  by_cases hx : x = 0
  · subst hx
    exact (by decide : invAffine (sbox 0) = 0).trans ginv_zero.symm
  · exact (gmul_eq_one_iff hx).1 (gmul_invAffine_sbox x hx)

theorem sbox_eq_affine_ginv (x : Byte) : sbox x = affine (ginv x) := by rw [← invAffine_sbox, affine_invAffine]

@[simp] theorem invSbox_sbox : ∀ x : Byte, invSbox (sbox x) = x := by decide +kernel

@[simp] theorem sbox_invSbox : ∀ y : Byte, sbox (invSbox y) = y := by decide +kernel

theorem invSbox_eq_ginv_invAffine (y : Byte) : invSbox y = ginv (invAffine y) := by
  calc invSbox y = ginv (ginv (invSbox y)) := (ginv_ginv _).symm
    _ = ginv (invAffine (sbox (invSbox y))) := by rw [invAffine_sbox]
    _ = ginv (invAffine y) := by rw [sbox_invSbox]

/-- Settles O31: the affine map undone on the listed S-box is the inverse, and the listed inverse S-box undoes the
S-box. -/
theorem substitutionBoxesFollowTheirFormulas : Obligations.SubstitutionBoxesFollowTheirFormulas :=
  ⟨sbox_eq_affine_ginv, fun x => ⟨invSbox_sbox x, sbox_invSbox x⟩, invSbox_eq_ginv_invAffine⟩

theorem sbox_bijective : Function.Bijective sbox :=
  Function.bijective_iff_has_inverse.2 ⟨invSbox, invSbox_sbox, sbox_invSbox⟩

theorem invSbox_bijective : Function.Bijective invSbox :=
  Function.bijective_iff_has_inverse.2 ⟨sbox, sbox_invSbox, invSbox_sbox⟩

theorem sbox_ne_self_and_ne_not : ∀ x : Byte, sbox x ≠ x ∧ sbox x ≠ x ^^^ 0xFF := by decide +kernel

/-- Settles O32: the boxes are inverse to each other, the multiply tables are products, and the rest compares the
lists. -/
theorem tablePropertiesHold : Obligations.TablePropertiesHold := by
  refine ⟨sbox_bijective, invSbox_bijective, fun x => ⟨invSbox_sbox x, sbox_invSbox x⟩, sbox_ne_self_and_ne_not,
    fun p hp => ?_, by decide⟩
  obtain ⟨hk, hproduct, hcorner⟩ := multiplyTables_products_and_corners p hp
  obtain ⟨hbij, hxor, hzero, hone⟩ := bijective_and_linear_of_eq_gmul hk hproduct
  exact ⟨hbij, hxor, hzero, hone, hcorner⟩

end Sys2Proof.Machine
end

section
/-! SUPPORT. The round primitives in the state view: the byte permutations within the rows, and MixColumns and
InvMixColumns as circulant matrices over GF(2^8) that are inverse to each other (41_round_primitives.md R140 to R149). -/

namespace Sys2Proof.Machine

/-! ### The state view of each primitive -/

@[simp] theorem stateAt_replicate (x : Byte) (r c : Fin 4) : stateAt (Vector.replicate 16 x) r c = x := by
  simp [stateAt]

@[simp] theorem stateAt_subBytes (b : Block) (r c : Fin 4) : stateAt (subBytes b) r c = sbox (stateAt b r c) := by
  simp [stateAt, subBytes]

@[simp] theorem stateAt_invSubBytes (b : Block) (r c : Fin 4) :
    stateAt (invSubBytes b) r c = invSbox (stateAt b r c) := by
  simp [stateAt, invSubBytes]

@[simp] theorem stateAt_shiftRows (b : Block) (r c : Fin 4) : stateAt (shiftRows b) r c = stateAt b r (c + r) :=
  stateAt_ofState _ r c

@[simp] theorem stateAt_invShiftRows (b : Block) (r c : Fin 4) : stateAt (invShiftRows b) r c = stateAt b r (c - r) :=
  stateAt_ofState _ r c

/-! ### The row shifts as byte permutations -/

/-- A map that moves bytes within their rows, row r's byte in column c coming from column `col r c`, is the byte
permutation `p` when `p` lists those places (R140). -/
theorem ofState_stateAt_getElem {col : Fin 4 → Fin 4 → Fin 4} {p : Vector (Fin 16) 16}
    (hp : ∀ r c : Fin 4, p[4 * c.val + r.val].val = 4 * (col r c).val + r.val) (b : Block) (i : Fin 16) :
    (ofState fun r c => stateAt b r (col r c))[i] = b[p[i]] := by
  have h := hp ⟨i.val % 4, by omega⟩ ⟨i.val / 4, by omega⟩
  simp only [Nat.div_add_mod] at h
  simp [ofState, stateAt, h]

/-- SHIFT_ROWS' permutation, output index from input index (R143). -/
theorem shiftRows_getElem (b : Block) (i : Fin 16) :
    (shiftRows b)[i] = b[(#v[0, 5, 10, 15, 4, 9, 14, 3, 8, 13, 2, 7, 12, 1, 6, 11] : Vector (Fin 16) 16)[i]] :=
  ofState_stateAt_getElem (by decide) b i

/-- INV_SHIFT_ROWS' permutation, output index from input index (R144). -/
theorem invShiftRows_getElem (b : Block) (i : Fin 16) :
    (invShiftRows b)[i] = b[(#v[0, 13, 10, 7, 4, 1, 14, 11, 8, 5, 2, 15, 12, 9, 6, 3] : Vector (Fin 16) 16)[i]] :=
  ofState_stateAt_getElem (by decide) b i

/-- Settles O11: both commands move bytes within their rows, and the tables list the places the bytes come from. -/
theorem shiftRowsCommandsPermuteBytes : Obligations.ShiftRowsCommandsPermuteBytes := fun s =>
  ⟨⟨_, exec_shiftRows s, shiftRows_getElem s.state, rfl⟩, ⟨_, exec_invShiftRows s, invShiftRows_getElem s.state, rfl⟩⟩

/-! ### Circulant matrices over GF(2^8) -/

/-- Row r of the product of the circulant matrix with first row `m` and the column `a`. -/
def circulant (m a : Fin 4 → Byte) (r : Fin 4) : Byte :=
  gmul (a r) (m 0) ^^^ gmul (a (r + 1)) (m 1) ^^^ gmul (a (r + 2)) (m 2) ^^^ gmul (a (r + 3)) (m 3)

/-- The definition's own numerals carry a proof that they are in range under a name of its own, which `ac_rfl` would tell
apart from those of `Fin.reduceAdd`; this equation has plain ones. -/
theorem circulant_apply (m a : Fin 4 → Byte) (r : Fin 4) :
    circulant m a r =
      gmul (a r) (m 0) ^^^ gmul (a (r + 1)) (m 1) ^^^ gmul (a (r + 2)) (m 2) ^^^ gmul (a (r + 3)) (m 3) := rfl

/-- The first row of the product of two circulant matrices: the cyclic convolution of their first rows. -/
def circulantProduct (m n : Fin 4 → Byte) (k : Fin 4) : Byte :=
  gmul (n k) (m 0) ^^^ gmul (n (k - 1)) (m 1) ^^^ gmul (n (k - 2)) (m 2) ^^^ gmul (n (k - 3)) (m 3)

/-- With plain numerals, as in `circulant_apply`. -/
theorem circulantProduct_apply (m n : Fin 4 → Byte) (k : Fin 4) :
    circulantProduct m n k =
      gmul (n k) (m 0) ^^^ gmul (n (k - 1)) (m 1) ^^^ gmul (n (k - 2)) (m 2) ^^^ gmul (n (k - 3)) (m 3) := rfl

/-- Circulant matrices compose by multiplying their first rows: both sides are the sum of the 16 products of an entry
of `a`, one of `n` and one of `m`. -/
theorem circulant_circulant (m n a : Fin 4 → Byte) :
    circulant m (circulant n a) = circulant (circulantProduct m n) a := by
  funext r
  have hadd (i j : Fin 4) : r + i + j = r + (i + j) := add_assoc r i j
  simp only [circulant_apply, circulantProduct_apply, xor_gmul, gmul_xor, gmul_assoc, hadd, Fin.reduceAdd,
    Fin.reduceSub, add_zero]
  ac_rfl

/-- The unit circulant matrix leaves every column. -/
theorem circulant_unit (a : Fin 4 → Byte) : circulant ![1, 0, 0, 0] a = a := by
  funext r
  simp [circulant_apply]

/-- A circulant matrix whose row has the sum 1 leaves an all-equal column. -/
theorem circulant_const {m : Fin 4 → Byte} (hsum : m 0 ^^^ m 1 ^^^ m 2 ^^^ m 3 = 1) (x : Byte) (r : Fin 4) :
    circulant m (fun _ => x) r = x := by
  simp only [circulant_apply, ← gmul_xor, hsum]
  exact gmul_one x

/-! ### MixColumns and InvMixColumns -/

/-- The first row of MixColumns' matrix (R146). -/
def mixRow : Fin 4 → Byte := ![0x02, 0x03, 0x01, 0x01]

/-- The first row of InvMixColumns' matrix (R147). -/
def invMixRow : Fin 4 → Byte := ![0x0E, 0x0B, 0x0D, 0x09]

theorem stateAt_mixColumns (b : Block) (r c : Fin 4) :
    stateAt (mixColumns b) r c = circulant mixRow (stateAt b · c) r := by
  obtain ⟨h2, h3, _⟩ := multiplyTables_eq_gmul
  rw [mixColumns, stateAt_ofState]
  match r with
  | 0 | 1 | 2 | 3 =>
    simp [mixColumnRow, circulant_apply, mixRow, h2, h3] <;> ac_rfl

theorem stateAt_invMixColumns (b : Block) (r c : Fin 4) :
    stateAt (invMixColumns b) r c = circulant invMixRow (stateAt b · c) r := by
  obtain ⟨_, _, h9, h11, h13, h14⟩ := multiplyTables_eq_gmul
  rw [invMixColumns, stateAt_ofState]
  match r with
  | 0 | 1 | 2 | 3 =>
    simp [invMixColumnRow, circulant_apply, invMixRow, h9, h11, h13, h14] <;> ac_rfl

/-- The two matrices are inverse to each other. -/
theorem circulantProduct_mixRow :
    circulantProduct invMixRow mixRow = ![1, 0, 0, 0] ∧ circulantProduct mixRow invMixRow = ![1, 0, 0, 0] := by
  decide

/-- MixColumns keeps an all-equal column: 02, 03, 01 and 01 have the sum 1 (R149). -/
theorem stateAt_mixColumns_const {b : Block} {x : Byte} {c : Fin 4} (h : ∀ r, stateAt b r c = x) (r : Fin 4) :
    stateAt (mixColumns b) r c = x := by
  simp only [stateAt_mixColumns, h]
  exact circulant_const (by decide) x r

/-- InvMixColumns keeps an all-equal column: 0E, 0B, 0D and 09 have the sum 1. -/
theorem stateAt_invMixColumns_const {b : Block} {x : Byte} {c : Fin 4} (h : ∀ r, stateAt b r c = x) (r : Fin 4) :
    stateAt (invMixColumns b) r c = x := by
  simp only [stateAt_invMixColumns, h]
  exact circulant_const (by decide) x r

/-! ### The laws of R149 -/

@[simp] theorem invSubBytes_subBytes (b : Block) : invSubBytes (subBytes b) = b := block_ext_state (by simp)

@[simp] theorem subBytes_invSubBytes (b : Block) : subBytes (invSubBytes b) = b := block_ext_state (by simp)

@[simp] theorem invShiftRows_shiftRows (b : Block) : invShiftRows (shiftRows b) = b := block_ext_state (by simp)

@[simp] theorem shiftRows_invShiftRows (b : Block) : shiftRows (invShiftRows b) = b := block_ext_state (by simp)

@[simp] theorem invMixColumns_mixColumns (b : Block) : invMixColumns (mixColumns b) = b :=
  block_ext_state fun r c => by
    simp only [stateAt_invMixColumns, stateAt_mixColumns, circulant_circulant, circulantProduct_mixRow, circulant_unit]

@[simp] theorem mixColumns_invMixColumns (b : Block) : mixColumns (invMixColumns b) = b :=
  block_ext_state fun r c => by
    simp only [stateAt_invMixColumns, stateAt_mixColumns, circulant_circulant, circulantProduct_mixRow, circulant_unit]

@[simp] theorem addRoundKey_addRoundKey (b k : Block) : addRoundKey (addRoundKey b k) k = b :=
  xorBlock_cancel_right b k

theorem subBytes_shiftRows (b : Block) : subBytes (shiftRows b) = shiftRows (subBytes b) := block_ext_state (by simp)

theorem invSubBytes_invShiftRows (b : Block) : invSubBytes (invShiftRows b) = invShiftRows (invSubBytes b) :=
  block_ext_state (by simp)

theorem mixColumns_replicate (x : Byte) : mixColumns (Vector.replicate 16 x) = Vector.replicate 16 x :=
  block_ext_state fun r c => by simp [stateAt_mixColumns_const (stateAt_replicate x · c)]

theorem invMixColumns_replicate (x : Byte) : invMixColumns (Vector.replicate 16 x) = Vector.replicate 16 x :=
  block_ext_state fun r c => by simp [stateAt_invMixColumns_const (stateAt_replicate x · c)]

/-- Settles O20: every law byte by byte in the state view; a block of equal bytes is a fixed point whatever the byte. -/
theorem roundPrimitivesInvert : Obligations.RoundPrimitivesInvert := fun b k =>
  ⟨invSubBytes_subBytes b, subBytes_invSubBytes b, invShiftRows_shiftRows b, shiftRows_invShiftRows b,
    invMixColumns_mixColumns b, mixColumns_invMixColumns b, addRoundKey_addRoundKey b k, subBytes_shiftRows b,
    invSubBytes_invShiftRows b, fun _ _ h => stateAt_mixColumns_const h,
    fun x _ => ⟨mixColumns_replicate x, invMixColumns_replicate x⟩⟩

end Sys2Proof.Machine
end

section
/-! SUPPORT. The states a fold of a round function passes through, one more than it has rounds: Cipher and InvCipher as
sequences of round states (43_block_cipher.md R190, R191). -/

namespace Sys2Proof.Machine

section foldStates

variable {α β : Type} {n : Nat} (f : α → β → α) (a : α) (g : Fin n → β)

/-- The states of a fold over `g 0 .. g (n - 1)`: state `i` is the fold over the first `i` values. -/
def foldStates (i : Fin (n + 1)) : α := ((List.ofFn g).take i).foldl f a

theorem foldStates_zero : foldStates f a g 0 = a := rfl

theorem foldStates_succ (i : Fin n) : foldStates f a g i.succ = f (foldStates f a g i.castSucc) (g i) := by
  have hlen : i.val < (List.ofFn g).length := by simp
  rw [foldStates, Fin.val_succ, List.take_succ_eq_append_getElem hlen, List.foldl_concat, List.getElem_ofFn]
  rfl

theorem foldStates_last : foldStates f a g (Fin.last n) = (List.ofFn g).foldl f a := by
  rw [foldStates, Fin.val_last, List.take_of_length_le (by simp)]

end foldStates

/-- The index of the round key of Cipher's full round that ends in state `r + 1` (R190). -/
def cipherRoundIndex (r : Fin 9) : Fin 11 := r.succ.castLE (by decide)

/-- The index of the round key of InvCipher's full round that ends in state `k + 1` (R191). -/
def invCipherRoundIndex (k : Fin 9) : Fin 11 := k.rev.succ.castLE (by decide)

theorem ofFn_cipherRoundIndex : List.ofFn cipherRoundIndex = [1, 2, 3, 4, 5, 6, 7, 8, 9] := by decide

theorem ofFn_invCipherRoundIndex : List.ofFn invCipherRoundIndex = [9, 8, 7, 6, 5, 4, 3, 2, 1] := by decide

/-- The states x 0 .. x 9 of `Cipher(p, RK)` (R190). -/
def cipherStates (p : Block) (rk : Schedule) : Fin 10 → Block :=
  foldStates (cipherRound rk) (addRoundKey p (roundKey rk 0)) cipherRoundIndex

/-- The states x 0 .. x 9 of `InvCipher(c, RK)` (R191). -/
def invCipherStates (c : Block) (rk : Schedule) : Fin 10 → Block :=
  foldStates (invCipherRound rk) (addRoundKey c (roundKey rk 10)) invCipherRoundIndex

theorem cipher_eq_lastRound (p : Block) (rk : Schedule) :
    cipher p rk = addRoundKey (shiftRows (subBytes (cipherStates p rk 9))) (roundKey rk 10) := by
  rw [cipher, ← ofFn_cipherRoundIndex, ← foldStates_last]
  rfl

theorem invCipher_eq_lastRound (c : Block) (rk : Schedule) :
    invCipher c rk = addRoundKey (invSubBytes (invShiftRows (invCipherStates c rk 9))) (roundKey rk 0) := by
  rw [invCipher, ← ofFn_invCipherRoundIndex, ← foldStates_last]
  rfl

/-- Settles O17: the states are those of Cipher's fold over the round keys 1 to 9. -/
theorem cipherRoundSequence : Obligations.CipherRoundSequence := fun p rk =>
  ⟨cipherStates p rk, foldStates_zero _ _ _, foldStates_succ _ _ _, cipher_eq_lastRound p rk⟩

/-- Settles O18: the states are those of InvCipher's fold over the round keys 9 to 1. -/
theorem invCipherRoundSequence : Obligations.InvCipherRoundSequence := fun c rk =>
  ⟨invCipherStates c rk, foldStates_zero _ _ _, foldStates_succ _ _ _, invCipher_eq_lastRound c rk⟩

end Sys2Proof.Machine
end

section
/-! SUPPORT. CTR_GEN's and CTR_XOR's keystream: what it is a function of, and that combining STATE with it twice restores
STATE (44_ctr.md R213 to R215, R217). -/

namespace Sys2Proof.Machine

open Host (Outcome)

/-- Under the invariant a valid schedule is the key's expansion (R35), so the keystream block depends on the key, the
nonce and the counter value alone (R217). -/
theorem keystream_congr {s s' : State} (hs : Inv s) (hs' : Inv s') (hv : s.keyValid = true) (hv' : s'.keyValid = true)
    (hkey : s'.key = s.key) (hnonce : s'.nonce = s.nonce) (hctr : s'.ctr = s.ctr) : keystream s' = keystream s := by
  have hrk : s'.rk = s.rk := by
    rw [hs'.scheduleMatchesKey hv', hs.scheduleMatchesKey hv, hkey]
  simp only [keystream, hrk, hnonce, hctr]

/-- CTR_XOR with a valid key (R214). -/
theorem exec_ctrXor_valid {s : State} (hv : s.keyValid = true) :
    exec .ctrXor s = .next (complete (incrementCtr (xorKeystream (loadKeystream s)))) := by
  rw [exec_ctrXor, completeWithKey_valid _ hv]

/-- Settles O25: both commands combine STATE with the same keystream block, and the second combination undoes the
first. -/
theorem ctrXorIsSelfInverse : Obligations.CtrXorIsSelfInverse := by
  intro s s' t hs hs' hv hv' hkey hnonce hctr hfirst hstate
  obtain rfl := Outcome.next.inj ((exec_ctrXor_valid hv).symm.trans hfirst)
  have hks : keystream s' = keystream s := keystream_congr hs hs' hv hv' hkey hnonce hctr
  have hy : s'.state = addRoundKey s.state (keystream s) := by simpa using hstate
  refine ⟨fun i => ?_, _, exec_ctrXor_valid hv', ?_⟩
  · simp [addRoundKey]
  · simp [hy, hks]

end Sys2Proof.Machine
end

section
/-! SUPPORT. The padding length of a plaintext, and the lengths of the padded plaintext and of the header
(45_host_stream.md R232, R233). -/

namespace Sys2Proof.Machine

/-- The padding length is a remainder modulo 16 (R233). -/
theorem padLength_le (n : Nat) : padLength n ≤ 15 := Nat.le_of_lt_succ (Nat.mod_lt _ (by decide))

/-- Only a whole number of blocks needs no padding (R233). -/
theorem padLength_eq_zero_iff (n : Nat) : padLength n = 0 ↔ 16 ∣ n := by
  unfold padLength
  omega

/-- The padding fills the last of the ceil(n / 16) blocks (R233). -/
theorem add_padLength (n : Nat) : n + padLength n = 16 * ((n + 15) / 16) := by
  unfold padLength
  omega

@[simp] theorem length_padded (l : List Byte) : (padded l).length = 16 * ((l.length + 15) / 16) := by
  rw [padded, List.length_append, List.length_replicate, add_padLength]

@[simp] theorem length_header (n : Nonce) (len : Nat) : (header n len).length = 9 := by
  simp [header]

/-- Settles O56: the plaintext and its padding are whole blocks, and the frame is the header and these blocks. -/
theorem paddingFillsTheLastBlock : Obligations.PaddingFillsTheLastBlock := by
  refine ⟨fun l => ⟨rfl, padLength_le _, padLength_eq_zero_iff _, length_padded l, rfl, fun n => ?_⟩, by decide⟩
  rw [List.length_append, length_header, length_padded]

end Sys2Proof.Machine
end

section
/-! SUPPORT. The commands' words and their place in the step: a decoded word that stands in PEND is what the engine
performs, and who moves in a state (30_encoding.md R91, R94, R100; 10_state.md R33, 70_reset_and_hazards.md R290). -/

namespace Sys2Proof.Machine

/-- Settles O3: decode and encode are inverse. -/
theorem decodeAgreesWithEncode : Obligations.DecodeAgreesWithEncode := fun _ _ => decode_eq_ok_iff_eq_encode

/-- Settles O1: each listed word is its command's encoding. -/
theorem opcodeMapWordsDecode : Obligations.OpcodeMapWordsDecode := by
  intro p hp
  rw [decode_eq_ok_iff_eq_encode]
  revert p
  decide

/-! ### Who moves -/

theorem step_of_rst {s : State} (hr : s.rst = true) : step s = .next (applyReset s) := by
  simp [step, hr]

theorem step_of_engineCommand_some {s : State} {i : Instr} (hr : s.rst = false) (he : engineCommand s = some i) :
    step s = exec i s := by
  simp [step, hr, he]

theorem step_of_engineCommand_none {s : State} (hr : s.rst = false) (he : engineCommand s = none) :
    step s = hostTurn s := by
  simp [step, hr, he]

/-- Settles O4: the reset, the engine's command or the host's turn, by the reset input, BUSY, PEND and the latency. -/
theorem stepRunsResetEngineOrHost : Obligations.StepRunsResetEngineOrHost := by
  intro s
  refine ⟨step_of_rst, fun i hr hb hp hl => ?_, fun hr hb => ?_, fun k hr hl => ⟨?_, ?_⟩⟩
  · exact step_of_engineCommand_some hr (engineCommand_eq_some.2 ⟨hb, hl, hp⟩)
  · exact step_of_engineCommand_none hr (engineCommand_eq_none.2 (.inl hb))
  · exact step_of_engineCommand_none hr (engineCommand_eq_none.2 (.inr (.inl (by simp [hl]))))
  · simp [hl]

/-! ### The word placed in PEND -/

theorem decodeTableWord_encode (i : Instr) : decodeTableWord 32 (encode i).toNat = some i := by
  have hdecode : decode (encode i) = .ok i := decode_eq_ok_iff_eq_encode.2 rfl
  simp [decodeTableWord, hdecode, (encode i).isLt]

/-- A command's word is placed in PEND, with its latency passed (log 4). -/
theorem withFetchWord_encode (s : State) (i : Instr) :
    s.withFetchWord 32 (encode i).toNat = { s with pend := some i, busy := true, latency := 0, rst := false } := by
  simp [State.withFetchWord, decodeTableWord_encode]

/-- Settles O5: the placed word decodes to the command in PEND, whose latency has passed. -/
theorem fetchedWordIsPerformedNext : Obligations.FetchedWordIsPerformedNext := by
  intro s i
  refine ⟨decodeTableWord_encode i, ?_, ?_⟩ <;> rw [withFetchWord_encode]
  exact step_of_engineCommand_some rfl rfl

end Sys2Proof.Machine
end

section
/-! SUPPORT. KEY_VALID and the schedule RAM: which operation changes them (10_state.md R24, R35, R40, 42_key_schedule.md
R177). -/

namespace Sys2Proof.Machine

open Host (Outcome)

/-- A completion that answers a next state keeps KEY_VALID and the schedule RAM unless it is KEY_EXPAND's (R97). -/
theorem exec_schedule {i : Instr} {s t : State} (h : exec i s = .next t) (hi : i ≠ .keyExpand) :
    t.rk = s.rk ∧ t.keyValid = s.keyValid := by
  obtain ⟨_, _, rfl⟩ | ⟨_, he⟩ := exec_next_cases h
  · exact ⟨rfl, rfl⟩
  · exact he.schedule hi

theorem writeCmd_schedule (v : Word) (s : State) :
    (writeCmd v s).rk = s.rk ∧ (writeCmd v s).keyValid = s.keyValid := by
  obtain ⟨_, e⟩ | ⟨_, _, e⟩ | ⟨_, _, _, _, _, e⟩ | ⟨_, _, _, _, e⟩ := writeCmd_cases v s <;> rw [e] <;> exact ⟨rfl, rfl⟩

theorem writeReg_rk (v : Word) (s : State) (r : Reg) : (writeReg v s r).rk = s.rk := by
  cases r with
  | cmd => exact (writeCmd_schedule v s).1
  | id | ctrl | status | key | state | ks | nonce | ctrHi | ctrLo | lutAddr | lutData | rk => rfl

/-- A KEY word is the one register whose write changes KEY_VALID (R28). -/
theorem writeReg_keyValid_cases (v : Word) (s : State) (r : Reg) :
    (writeReg v s r).keyValid = s.keyValid ∨ (writeReg v s r).keyValid = false ∧ ∃ j, r = .key j := by
  cases r with
  | cmd => exact .inl (writeCmd_schedule v s).2
  | key j => exact .inr ⟨rfl, j, rfl⟩
  | id | ctrl | status | state | ks | nonce | ctrHi | ctrLo | lutAddr | lutData | rk => exact .inl rfl

@[simp] theorem busWrite_rk (size off : Nat) (v : Word) (s : State) : (busWrite size off v s).2.rk = s.rk := by
  obtain ⟨_, e⟩ | ⟨r, _, _, _, e⟩ | ⟨r, _, _, e⟩ := busWrite_state_cases size off v s <;> rw [e]
  · rfl
  · rfl
  · exact writeReg_rk v s r

/-- A bus write keeps KEY_VALID, or it is a 32-bit write of a KEY word while BUSY = 0 and clears it. -/
theorem busWrite_keyValid_cases (size off : Nat) (v : Word) (s : State) :
    (busWrite size off v s).2.keyValid = s.keyValid ∨
      (busWrite size off v s).2.keyValid = false ∧ s.busy = false ∧ size = 4 ∧
        ∃ j : Fin 4, off = 0x010 + 4 * j.val := by
  obtain ⟨_, e⟩ | ⟨r, _, _, _, e⟩ | ⟨r, ht, hb, e⟩ := busWrite_state_cases size off v s <;> rw [e]
  · exact .inl rfl
  · exact .inl rfl
  · obtain hk | ⟨hk, j, rfl⟩ := writeReg_keyValid_cases v s r
    · exact .inl hk
    · obtain ⟨hs, ho⟩ := busTarget_eq_some.1 ht
      exact .inr ⟨hk, by simpa [Reg.writeHazard] using hb, hs, j, ho⟩

/-- A step without reset that is no completion of KEY_EXPAND keeps the schedule RAM, and keeps KEY_VALID or is the
host's write of a KEY word while BUSY = 0, which clears it. -/
theorem step_schedule_cases {s t : State} (hr : s.rst = false) (h : step s = .next t)
    (hx : engineCommand s ≠ some .keyExpand) :
    t.rk = s.rk ∧
      (t.keyValid = s.keyValid ∨
        t.keyValid = false ∧ s.busy = false ∧
          ∃ (j : Fin 4) (v : Word), hostNext s = some (.wr 4 (0x010 + 4 * j.val) v)) := by
  obtain ⟨i, he, h⟩ | ⟨_, ⟨b, _, e⟩ | ⟨size, off, v, hn, e⟩⟩ := step_engine_cases hr h
  · obtain ⟨hrk, hv⟩ := exec_schedule h fun hi => hx (hi ▸ he)
    exact ⟨hrk, .inl hv⟩
  · rw [e]
    exact ⟨rfl, .inl rfl⟩
  · rw [e]
    refine ⟨busWrite_rk size off v (passTurn s), ?_⟩
    obtain hk | ⟨hk, hb, rfl, j, rfl⟩ := busWrite_keyValid_cases size off v (passTurn s)
    · exact .inl hk
    · exact .inr ⟨hk, hb, j, v, hn⟩

/-- Settles O51: a step that is no completion of KEY_EXPAND keeps the RAM and at most clears KEY_VALID. -/
theorem keyValidAndScheduleChangeOnlyAsStated : Obligations.KeyValidAndScheduleChangeOnlyAsStated := by
  intro s t h hr
  by_cases hx : engineCommand s = some .keyExpand
  · refine ⟨fun _ _ => hx, fun _ => hx, fun _ hv => ?_⟩
    have hexec : exec .keyExpand s = .next t := (step_of_engineCommand_some hr hx).symm.trans h
    obtain rfl := Outcome.next.inj ((exec_keyExpand s).symm.trans hexec)
    cases hv
  · obtain ⟨hrk, hk⟩ := step_schedule_cases hr h hx
    refine ⟨fun hs ht => ?_, fun hne => absurd hrk hne, fun hs ht => ?_⟩
    · obtain hk | ⟨hk, _⟩ := hk
      · simp [hk, hs] at ht
      · simp [hk] at ht
    · obtain hk | ⟨_, hcause⟩ := hk
      · simp [hk, hs] at ht
      · exact hcause

end Sys2Proof.Machine
end

section
/-! SUPPORT. The invariant: reset has it and every step keeps it (10_state.md R35, R41; 30_encoding.md R96; log 12). -/

namespace Sys2Proof.Machine

open Host (Outcome)

theorem inv_atReset {host : HostAgent} (hn : host.names.Pairwise fun a b => a.1 < b.1) (p : Supply) :
    Inv (State.atReset host p) :=
  ⟨rfl, nofun, nofun, hn⟩

/-- Settles O47: the reset state is idle without a valid key, and its host has read nothing. -/
theorem resetSatisfiesTheInvariant : Obligations.ResetSatisfiesTheInvariant := inv_atReset .nil _

/-- The invariant speaks of BUSY, PEND, KEY_VALID, KEY, the schedule RAM and the host's names; all other fields are
free. -/
theorem Inv.of_fields {s : State} (h : Inv s) {host : HostAgent} (hn : host.names.Pairwise fun a b => a.1 < b.1)
    (ie d eb ec en w e r : Bool) (st ks : Block) (n : Nonce) (c : BitVec 64) (lt : BitVec 3) (li : BitVec 8) (k : Nat)
    (p : Supply) :
    Inv { s with
      irqEn := ie, done := d, errBusy := eb, errCmd := ec, errNokey := en, ctrWrap := w, errBus := e, rst := r,
      state := st, ks := ks, nonce := n, ctr := c, lutTable := lt, lutIndex := li, latency := k, supply := p,
      host := host } :=
  ⟨h.busyIffPend, h.scheduleMatchesKey, h.pendHasKey, hn⟩

/-- A completion leaves no command pending, and KEY_EXPAND leaves the key's own expansion. -/
theorem exec_inv {i : Instr} {s t : State} (hs : Inv s) (h : exec i s = .next t) : Inv t := by
  obtain ⟨_, _, rfl⟩ | ⟨_, he⟩ := exec_next_cases h
  · exact ⟨rfl, hs.scheduleMatchesKey, nofun, hs.namesRising⟩
  · have hschedule : t.keyValid = true → t.rk = keyExpansion s.key := by
      by_cases hi : i = .keyExpand
      · exact fun _ => (he.expanded hi).1
      · obtain ⟨hrk, hv⟩ := he.schedule hi
        rw [hrk, hv]
        exact hs.scheduleMatchesKey
    rw [he.frame]
    exact ⟨rfl, hschedule, nofun, hs.namesRising⟩

/-- An accepted command has the key it needs (R95, R96). -/
theorem writeCmd_inv {s : State} (hs : Inv s) (v : Word) : Inv (writeCmd v s) := by
  obtain ⟨_, e⟩ | ⟨_, _, e⟩ | ⟨_, _, _, _, _, e⟩ | ⟨i, _, _, hkey, e⟩ := writeCmd_cases v s <;> rw [e]
  · exact hs.of_fields hs.namesRising ..
  · exact hs.of_fields hs.namesRising ..
  · exact hs.of_fields hs.namesRising ..
  · refine ⟨rfl, hs.scheduleMatchesKey, fun j hj hn => ?_, hs.namesRising⟩
    obtain rfl := Option.some.inj hj
    exact hkey hn

/-- A register's write while it is not dropped: a KEY word is written only while no command is pending (R297). -/
theorem writeReg_inv {s : State} (hs : Inv s) (v : Word) {r : Reg} (hw : s.busy = false ∨ r.writeHazard = false) :
    Inv (writeReg v s r) := by
  cases r with
  | cmd => exact writeCmd_inv hs v
  | key j =>
    have hb : s.busy = false := by simpa [Reg.writeHazard] using hw
    have hp : s.pend = none := by simpa [hb] using hs.busyIffPend
    refine ⟨hs.busyIffPend, nofun, fun i hi => ?_, hs.namesRising⟩
    simp [writeReg, hp] at hi
  | id | ctrl | status | state | ks | nonce | ctrHi | ctrLo | lutAddr | lutData | rk =>
    exact hs.of_fields hs.namesRising ..

theorem busWrite_inv {s : State} (hs : Inv s) (size off : Nat) (v : Word) : Inv (busWrite size off v s).2 := by
  obtain ⟨_, e⟩ | ⟨r, _, _, _, e⟩ | ⟨r, _, hw, e⟩ := busWrite_state_cases size off v s <;> rw [e]
  · exact hs.of_fields hs.namesRising ..
  · exact hs.of_fields hs.namesRising ..
  · exact writeReg_inv hs v hw

/-- A host turn keeps the names or sets one. -/
theorem hostTurn_names_cases {s t : State} (h : hostTurn s = .next t) :
    t.host.names = s.host.names ∨ ∃ name v, t.host.names = setName name v s.host.names := by
  obtain ⟨_, e⟩ | ⟨size, off, name, _, _, e⟩ | ⟨size, off, v, _, _, e⟩ | ⟨off, mask, val, _, _, ⟨_, e⟩ | ⟨_, e⟩⟩ |
    ⟨_, place, e⟩ | ⟨_, e⟩ := hostTurn_next_cases h
  · exact .inl (by simp [e])
  · exact .inr ⟨name, _, by simp [e]; rfl⟩
  · exact .inl (by simp [e])
  · exact .inl (by simp [e])
  · exact .inl (by simp [e])
  · exact .inl (by simp [e])
  · exact .inl (by simp [e])

theorem hostTurn_names_rising {s t : State} (hs : s.host.names.Pairwise fun a b => a.1 < b.1)
    (h : hostTurn s = .next t) : t.host.names.Pairwise fun a b => a.1 < b.1 := by
  obtain e | ⟨name, v, e⟩ := hostTurn_names_cases h <;> rw [e]
  · exact hs
  · exact setName_rising name v hs

theorem hostTurn_inv {s t : State} (hs : Inv s) (h : hostTurn s = .next t) : Inv t := by
  have hturn : Inv (passTurn s) := hs.of_fields hs.namesRising ..
  have hn := hostTurn_names_rising hs.namesRising h
  obtain ⟨size, off, e⟩ | ⟨size, off, v, _, e⟩ | e := hostTurn_engine_cases h
  · obtain ⟨b, p, eb, _⟩ := busRead_state_eq size off (passTurn s)
    rw [e, eb]
    exact hturn.of_fields hn ..
  · rw [e]
    exact (busWrite_inv hturn size off v).of_fields hn ..
  · rw [e]
    exact hturn.of_fields hn ..

/-- Settles O48: the reset, every completion and every host turn keep the invariant. -/
theorem everyStepKeepsTheInvariant : Obligations.EveryStepKeepsTheInvariant := by
  intro s t hs h
  obtain ⟨_, rfl⟩ | ⟨_, i, _, h⟩ | ⟨_, _, h⟩ := step_next_cases h
  · exact inv_atReset hs.namesRising _
  · exact exec_inv hs h
  · exact hostTurn_inv hs h

end Sys2Proof.Machine
end

section
/-! SUPPORT. An access at a register's own offset: exact, dropped or a draw (20_memory.md R60, R61;
70_reset_and_hazards.md R297 to R299). -/

namespace Sys2Proof.Machine

section

variable {s : State} (r : Reg)

theorem busWrite_offset_undropped (v : Word) (h : s.busy = false ∨ r.writeHazard = false) :
    busWrite 4 r.offset v s = (okResp 0, writeReg v s r) := by
  rw [busWrite_some v s (busTarget_offset r)]
  obtain h | h := h <;> simp [h]

theorem busWrite_offset_dropped (v : Word) (hb : s.busy = true) (hw : r.writeHazard = true) :
    busWrite 4 r.offset v s = (okResp 0, setErrBusy s) := by
  simp [busWrite_some v s (busTarget_offset r), hb, hw]

theorem busRead_offset_exact (h : s.busy = false ∨ r.readHazard = false) :
    busRead 4 r.offset s = (okResp (readReg s r), s) := by
  rw [busRead_some s (busTarget_offset r)]
  obtain h | h := h <;> simp [h]

theorem busRead_offset_draw (hb : s.busy = true) (hr : r.readHazard = true) :
    busRead 4 r.offset s = (okResp (drawWord s).1, (drawWord s).2) := by
  simp [busRead_some s (busTarget_offset r), hb, hr]

end

end Sys2Proof.Machine
end

section
/-! SUPPORT. A write to CMD: an equation for each of its ends (30_encoding.md R95, R96). -/

namespace Sys2Proof.Machine

section

variable {v : Word} {s : State}

theorem writeCmd_busy (v : Word) (hb : s.busy = true) : writeCmd v s = setErrBusy s := by
  simp [writeCmd, hb]

theorem writeCmd_invalid {e : DecodeError} (hb : s.busy = false) (hd : decode v = .error e) :
    writeCmd v s = rejectInvalid s := by
  simp [writeCmd, hb, hd]

theorem writeCmd_noKey {i : Instr} (hb : s.busy = false) (hd : decode v = .ok i) (hk : i.needsKey = true)
    (hv : s.keyValid = false) : writeCmd v s = rejectNoKey s := by
  simp [writeCmd, hb, hd, hk, hv]

theorem writeCmd_accept {i : Instr} (hb : s.busy = false) (hd : decode v = .ok i)
    (hk : i.needsKey = true → s.keyValid = true) : writeCmd v s = accept i s := by
  have hcheck : (i.needsKey && !s.keyValid) = false := by
    cases hn : i.needsKey
    · rfl
    · simp [hk hn]
  simp [writeCmd, hb, hd, hcheck]

/-- A write to CMD is never silent while BUSY = 1: it is dropped as `writeCmd` says (R299). -/
theorem busWrite_cmd (v : Word) (s : State) : busWrite 4 0x00C v s = (okResp 0, writeCmd v s) := by
  cases hb : s.busy with
  | false => exact busWrite_offset_undropped .cmd v (.inl hb)
  | true =>
    rw [writeCmd_busy v hb]
    exact busWrite_offset_dropped .cmd v hb rfl

end

/-- Settles O6: the write's four ends. -/
theorem cmdWriteAcceptsOrRejects : Obligations.CmdWriteAcceptsOrRejects := by
  intro v s
  rw [busWrite_cmd]
  refine ⟨fun hb => ?_, fun _ hb hd => ?_, fun i hb hd hk hv => ?_, fun i hb hd hk => ?_⟩
  · rw [writeCmd_busy v hb]
    rfl
  · rw [writeCmd_invalid hb hd]
    rfl
  · rw [writeCmd_noKey hb hd hk hv]
    rfl
  · rw [writeCmd_accept hb hd hk]
    rfl

end Sys2Proof.Machine
end

section
/-! SUPPORT. The host's turn by its line: an equation for an idle turn and for each end of a `jnz` (30_encoding.md R101,
log 12, log 14). -/

namespace Sys2Proof.Machine

open Host (Outcome)

theorem hostTurn_of_none {s : State} (h : hostNext s = none) : hostTurn s = .next (passTurn s) := by
  simp [hostTurn, h]

theorem hostTurn_of_some {s : State} {op : HostOp} (h : hostNext s = some op) :
    hostTurn s = hostLine op (passTurn s) := by
  simp [hostTurn, h]

section jnz

variable {name l : Nat} {s : State}

theorem hostLine_jnz_unread (h : lookupName name s.host.names = none) :
    hostLine (.jnz name l) s = .fault (.unreadName name) := by
  simp [hostLine, h]

theorem hostLine_jnz_zero (h : lookupName name s.host.names = some 0) :
    hostLine (.jnz name l) s = .next (nextLine s) := by
  simp [hostLine, h]

theorem hostLine_jnz_unknown {v : Word} (h : lookupName name s.host.names = some v) (hv : v ≠ 0)
    (hf : findLabel l 0 s.host.prog = none) : hostLine (.jnz name l) s = .fault (.unknownLabel l) := by
  simp only [hostLine, h, if_neg hv, hf]

theorem hostLine_jnz_jump {v : Word} {place : Nat} (h : lookupName name s.host.names = some v) (hv : v ≠ 0)
    (hf : findLabel l 0 s.host.prog = some place) :
    hostLine (.jnz name l) s = .next { s with host := { s.host with pc := place } } := by
  simp only [hostLine, h, if_neg hv, hf]

end jnz

end Sys2Proof.Machine
end

section
/-! SUPPORT. The schedule RAM while KEY_VALID = 0: every operation of a step commutes with a change of its contents
(10_state.md R39, R40, R46). -/

namespace Sys2Proof.Machine

open Host (Outcome)

/-- The state with the schedule RAM's contents replaced. -/
def withSchedule (w : Schedule) (s : State) : State := { s with rk := w }

@[simp] theorem withSchedule_busy (w : Schedule) (s : State) : (withSchedule w s).busy = s.busy := rfl

/-- A map on the next state; a stop stays as it is. -/
def mapNext (f : State → State) : Outcome State Fault Refusal → Outcome State Fault Refusal
  | .next s => .next (f s)
  | .fault r => .fault r
  | .refused r => .refused r

/-! ### The bus -/

/-- No register's word depends on the RAM while KEY_VALID = 0: RK_W* read 0 (R39). -/
theorem readReg_withSchedule {s : State} (hv : s.keyValid = false) (w : Schedule) (r : Reg) :
    readReg (withSchedule w s) r = readReg s r := by
  cases r with
  | rk i => simp [readReg, rkWord, withSchedule, hv]
  | id | ctrl | status | cmd | key | state | ks | nonce | ctrHi | ctrLo | lutAddr | lutData => rfl

theorem busRead_withSchedule {s : State} (hv : s.keyValid = false) (w : Schedule) (size off : Nat) :
    busRead size off (withSchedule w s) = ((busRead size off s).1, withSchedule w (busRead size off s).2) := by
  cases ht : busTarget size off with
  | none =>
    simp only [busRead_none _ ht]
    rfl
  | some r =>
    simp only [busRead_some _ ht, readReg_withSchedule hv, withSchedule_busy]
    split <;> rfl

theorem writeCmd_withSchedule (v : Word) (w : Schedule) (s : State) :
    writeCmd v (withSchedule w s) = withSchedule w (writeCmd v s) := by
  obtain ⟨hb, e⟩ | ⟨hb, ⟨_, hd⟩, e⟩ | ⟨i, hb, hd, hk, hv, e⟩ | ⟨i, hb, hd, hk, e⟩ := writeCmd_cases v s <;> rw [e]
  · rw [writeCmd_busy v (s := withSchedule w s) hb]
    rfl
  · rw [writeCmd_invalid (s := withSchedule w s) hb hd]
    rfl
  · rw [writeCmd_noKey (s := withSchedule w s) hb hd hk hv]
    rfl
  · rw [writeCmd_accept (s := withSchedule w s) hb hd hk]
    rfl

theorem writeReg_withSchedule (v : Word) (w : Schedule) (s : State) (r : Reg) :
    writeReg v (withSchedule w s) r = withSchedule w (writeReg v s r) := by
  cases r with
  | cmd => exact writeCmd_withSchedule v w s
  | id | ctrl | status | key | state | ks | nonce | ctrHi | ctrLo | lutAddr | lutData | rk => rfl

theorem busWrite_withSchedule (size off : Nat) (v : Word) (w : Schedule) (s : State) :
    busWrite size off v (withSchedule w s) = ((busWrite size off v s).1, withSchedule w (busWrite size off v s).2) := by
  cases ht : busTarget size off with
  | none =>
    simp only [busWrite_none _ _ ht]
    rfl
  | some r =>
    simp only [busWrite_some _ _ ht, writeReg_withSchedule, withSchedule_busy]
    split <;> rfl

/-! ### The host's turn -/

theorem receive_withSchedule (r : BusResp) (w : Schedule) (s : State) :
    receive r (withSchedule w s) = withSchedule w (receive r s) := by
  unfold receive
  split <;> rfl

theorem hostLine_withSchedule {s : State} (hv : s.keyValid = false) (w : Schedule) (op : HostOp) :
    hostLine op (withSchedule w s) = mapNext (withSchedule w) (hostLine op s) := by
  cases op with
  | rd size off name =>
    simp only [hostLine, busRead_withSchedule hv, receive_withSchedule]
    split <;> rfl
  | wr size off v =>
    simp only [hostLine, busWrite_withSchedule, receive_withSchedule]
    split <;> rfl
  | poll off mask val =>
    simp only [hostLine, busRead_withSchedule hv, receive_withSchedule]
    split
    · rfl
    · split <;> rfl
  | label l => rfl
  | jnz name l =>
    cases hn : lookupName name s.host.names with
    | none =>
      rw [hostLine_jnz_unread hn, hostLine_jnz_unread (s := withSchedule w s) hn]
      rfl
    | some v =>
      by_cases hz : v = 0
      · subst hz
        rw [hostLine_jnz_zero hn, hostLine_jnz_zero (s := withSchedule w s) hn]
        rfl
      · cases hf : findLabel l 0 s.host.prog with
        | none =>
          rw [hostLine_jnz_unknown hn hz hf, hostLine_jnz_unknown (s := withSchedule w s) hn hz hf]
          rfl
        | some place =>
          rw [hostLine_jnz_jump hn hz hf, hostLine_jnz_jump (s := withSchedule w s) hn hz hf]
          rfl
  | rst => rfl

theorem hostTurn_withSchedule {s : State} (hv : s.keyValid = false) (w : Schedule) :
    hostTurn (withSchedule w s) = mapNext (withSchedule w) (hostTurn s) := by
  cases hn : hostNext s with
  | none =>
    rw [hostTurn_of_none hn, hostTurn_of_none (s := withSchedule w s) hn]
    rfl
  | some op =>
    rw [hostTurn_of_some hn, hostTurn_of_some (s := withSchedule w s) hn]
    exact hostLine_withSchedule (s := passTurn s) hv w op

/-! ### The engine -/

/-- A command that needs the key while KEY_VALID = 0 ends with ERR_NOKEY (log 3). -/
theorem exec_of_noKey {i : Instr} {s : State} (hk : i.needsKey = true) (hv : s.keyValid = false) :
    exec i s = .next (complete (rejectNoKey s)) := by
  obtain ⟨_, _, h⟩ | ⟨h, _⟩ := exec_next_cases (exec_eq_next i s)
  · rw [exec_eq_next, h]
  · simp [h hk] at hv

/-- KEY_EXPAND writes all 44 words from the key, and no other command uses the RAM while KEY_VALID = 0. -/
theorem exec_withSchedule {s : State} (hv : s.keyValid = false) (w : Schedule) (i : Instr) :
    exec i (withSchedule w s) =
      mapNext (withSchedule (if i = .keyExpand then keyExpansion s.key else w)) (exec i s) := by
  by_cases hk : i.needsKey = true
  · have hi : i ≠ .keyExpand := by
      rintro rfl
      cases hk
    rw [if_neg hi, exec_of_noKey hk hv, exec_of_noKey hk (s := withSchedule w s) hv]
    rfl
  · cases i with
    | keyExpand | nop | subBytes | invSubBytes | shiftRows | invShiftRows | mixColumns | invMixColumns => rfl
    | encrypt | decrypt | ctrGen | ctrXor | addRoundKey0 | addRoundKey1 | addRoundKey2 | addRoundKey3 | addRoundKey4
    | addRoundKey5 | addRoundKey6 | addRoundKey7 | addRoundKey8 | addRoundKey9 | addRoundKey10 => exact absurd rfl hk

/-! ### The step -/

/-- A change of the RAM's contents is carried through a step, unless the step sets them. -/
theorem step_withSchedule {s : State} (hv : s.keyValid = false) (w : Schedule) :
    ∃ w', step (withSchedule w s) = mapNext (withSchedule w') (step s) ∧
      ∀ t, step s = .next t → t.keyValid = true → w' = t.rk := by
  cases hr : s.rst with
  | true =>
    refine ⟨(applyReset s).rk, ?_, fun t ht _ => ?_⟩
    · rw [step_of_rst hr, step_of_rst (s := withSchedule w s) hr]
      rfl
    · rw [← Outcome.next.inj ((step_of_rst hr).symm.trans ht)]
  | false =>
    cases he : engineCommand s with
    | some i =>
      refine ⟨if i = .keyExpand then keyExpansion s.key else w, ?_, fun t ht hvt => ?_⟩
      · rw [step_of_engineCommand_some hr he, step_of_engineCommand_some (s := withSchedule w s) hr he]
        exact exec_withSchedule hv w i
      · rw [step_of_engineCommand_some hr he] at ht
        by_cases hi : i = .keyExpand
        · subst hi
          rw [if_pos rfl, ← Outcome.next.inj ((exec_keyExpand s).symm.trans ht)]
          rfl
        · simp [(exec_schedule ht hi).2, hv] at hvt
    | none =>
      refine ⟨w, ?_, fun t ht hvt => ?_⟩
      · rw [step_of_engineCommand_none hr he, step_of_engineCommand_none (s := withSchedule w s) hr he]
        exact hostTurn_withSchedule hv w
      · obtain ⟨_, hk | ⟨hk, _⟩⟩ := step_schedule_cases hr ht (by simp [he])
        · simp [hk, hv] at hvt
        · simp [hk] at hvt

/-- Settles O52: a change of the RAM's contents is carried through the step. -/
theorem unwrittenScheduleIsUnobservable : Obligations.UnwrittenScheduleIsUnobservable := by
  intro s w hv
  obtain ⟨w', e, hw⟩ := step_withSchedule hv w
  split
  next t ht => exact ⟨w', by rw [ht] at e; exact e, hw t ht⟩
  next r hr => rw [hr] at e; exact e
  next r hr => rw [hr] at e; exact e

end Sys2Proof.Machine
end

section
/-! SUPPORT. The register map and the accesses to each register, as the host sees them (10_state.md sections 1 to 5,
20_memory.md, 40_gf_tables.md section 4, 70_reset_and_hazards.md section 3). -/

namespace Sys2Proof.Machine

/-! ### The map -/

theorem windowOffset_add (off : Nat) :
    windowOffset (Config.aesBase + off) = if off < 0x200 then some off else none := by
  simp [windowOffset, Config.windowBytes]

/-- Settles O34: each register's offset names it, and the other word offsets are the two reserved ranges. -/
theorem registerMapOfTheWindow : Obligations.RegisterMapOfTheWindow := by
  refine ⟨⟨rfl, rfl, rfl, rfl, rfl, rfl, rfl, rfl⟩, fun j => ⟨?_, ?_, ?_⟩, fun j => ?_, fun i => ?_,
    fun off hw h4 => ?_, Nat.mul_mod_right _ _, windowOffset_add⟩
  · exact ofOffset_offset (.key j)
  · exact ofOffset_offset (.state j)
  · exact ofOffset_offset (.ks j)
  · exact ofOffset_offset (.nonce j)
  · exact ofOffset_offset (.rk i)
  · rw [ofOffset_eq_none h4]
    omega

/-! ### The fields of LUT_ADDR -/

theorem lutMask_getLsbD : ∀ k < 32, (0x7FF : Word).getLsbD k = decide (k < 11) := by decide

/-- LUT_ADDR's fields are bits 10:0 (R37). -/
theorem and_lutMask_eq_append (v : Word) :
    (0 : BitVec 21) ++ v.extractLsb' 8 3 ++ v.extractLsb' 0 8 = v &&& 0x7FF := by
  refine BitVec.eq_of_getLsbD_eq fun k hk => ?_
  rw [BitVec.getLsbD_and, lutMask_getLsbD k hk]
  simp only [BitVec.getLsbD_append, BitVec.getLsbD_extractLsb']
  grind

theorem extractLsb'_and_lutMask (v : Word) {a n : Nat} (h : a + n ≤ 11) :
    (v &&& 0x7FF).extractLsb' a n = v.extractLsb' a n := by
  ext k hk
  rw [BitVec.getElem_extractLsb', BitVec.getElem_extractLsb', BitVec.getLsbD_and, lutMask_getLsbD _ (by omega)]
  simp
  omega

/-! ### Accesses at any time -/

/-- Settles O33: LUT_ADDR and LUT_DATA are under no hazard, and the word read back is made of the two fields. -/
theorem lookupPortReadsTheTables : Obligations.LookupPortReadsTheTables := by
  refine ⟨fun v s => ⟨?_, ?_, ?_⟩, rfl, rfl, rfl, rfl, rfl, rfl, rfl, rfl⟩
  · exact busWrite_offset_undropped .lutAddr v (.inr rfl)
  · have hwrite : busWrite 4 0x050 v s = _ := busWrite_offset_undropped .lutAddr v (.inr rfl)
    rw [hwrite, ← and_lutMask_eq_append]
    exact congrArg Prod.fst (busRead_offset_exact .lutAddr (.inr rfl))
  · exact busRead_offset_exact .lutData (.inr rfl)

/-- Settles O36: none of these accesses is under a hazard, and a write depends on the register's writable bits alone. -/
theorem writeOnlyReadsAndReadOnlyWrites : Obligations.WriteOnlyReadsAndReadOnlyWrites := by
  intro v s
  have hread (r : Reg) (h : r.readHazard = false) : busRead 4 r.offset s = (okResp (readReg s r), s) :=
    busRead_offset_exact r (.inr h)
  have hwrite (r : Reg) (h : r.writeHazard = false) (u : Word) :
      busWrite 4 r.offset u s = (okResp 0, writeReg u s r) := busWrite_offset_undropped r u (.inr h)
  refine ⟨hread .id rfl, ⟨hread .cmd rfl, fun j => hread (.key j) rfl⟩,
    ⟨hwrite .id rfl v, hwrite .lutData rfl v, fun j => hwrite (.ks j) rfl v, fun i => hwrite (.rk i) rfl v⟩, ?_, ?_, ?_⟩
  · refine ((hwrite .ctrl rfl v).trans ?_).trans (hwrite .ctrl rfl _).symm
    simp [writeReg]
  · refine ((hwrite .lutAddr rfl v).trans ?_).trans (hwrite .lutAddr rfl _).symm
    simp only [writeReg, extractLsb'_and_lutMask v (a := 0) (n := 8) (by decide),
      extractLsb'_and_lutMask v (a := 8) (n := 3) (by decide)]
  · refine ((hwrite .status rfl v).trans ?_).trans (hwrite .status rfl _).symm
    simp [writeReg, clearFlags]

/-- A W1C flag after a write: cleared where the bit is 1 (R25). -/
theorem and_not_eq_ite (f b : Bool) : (f && !b) = if b then false else f := by
  cases f <;> cases b <;> rfl

/-- Settles O37: STATUS is read and written under no hazard. -/
theorem statusReadsAndClearsItsFlags : Obligations.StatusReadsAndClearsItsFlags := by
  intro v s
  have hread : busRead 4 0x008 s = (okResp (statusWord s), s) := busRead_offset_exact .status (.inr rfl)
  have hwrite : busWrite 4 0x008 v s = (okResp 0, clearFlags v s) := busWrite_offset_undropped .status v (.inr rfl)
  rw [hread, hwrite]
  refine ⟨fun i => ?_, rfl, rfl, ?_⟩
  · rw [okResp, statusWord_getLsbD]
    match i with
    | 0 | 1 | 2 | 3 | 4 | 5 | 6 | 7 => rfl
    | n + 8 => rfl
  · simp only [clearFlags, and_not_eq_ite]

theorem ctrlWord_eq_ite (s : State) : ctrlWord s = if s.irqEn then 1 else 0 := by
  unfold ctrlWord
  cases s.irqEn <;> rfl

/-- Settles O38: CTRL and STATUS are written under no hazard, and `irq` is a function of the two bits. -/
theorem interruptFollowsDone : Obligations.InterruptFollowsDone := by
  intro v s
  have hctrl (u : Word) : busWrite 4 0x004 u s = (okResp 0, { s with irqEn := u.getLsbD 0 }) :=
    busWrite_offset_undropped .ctrl u (.inr rfl)
  have hstatus : busWrite 4 0x008 2 s = (okResp 0, clearFlags 2 s) :=
    busWrite_offset_undropped .status 2 (.inr rfl)
  have hread : busRead 4 0x004 s = (okResp (ctrlWord s), s) := busRead_offset_exact .ctrl (.inr rfl)
  refine ⟨hctrl v, ?_, rfl, ?_, ?_⟩
  · rw [hread]
    exact ctrlWord_eq_ite s
  · rw [hctrl]
    rfl
  · rw [hstatus]
    simp [irq, clearFlags]

/-! ### Accesses while BUSY = 0 -/

/-- Settles O39: no write is dropped, and a word written leaves the other words of its value. -/
theorem dataRegisterWritesStoreOneWord : Obligations.DataRegisterWritesStoreOneWord := by
  intro v s hb
  have hwrite (r : Reg) : busWrite 4 r.offset v s = (okResp 0, writeReg v s r) :=
    busWrite_offset_undropped r v (.inl hb)
  refine ⟨fun j => ⟨_, hwrite (.key j), fun k => wordOf_setWord s.key j k v, rfl⟩,
    fun j => ⟨_, hwrite (.state j), fun k => wordOf_setWord s.state j k v, rfl⟩,
    fun j => ⟨_, hwrite (.nonce j), fun k => nonceWord_setNonceWord s.nonce j k v, rfl⟩,
    ⟨_, hwrite .ctrHi, ?_, ?_, rfl⟩, ⟨_, hwrite .ctrLo, ?_, ?_, rfl⟩⟩
  · exact BitVec.extractLsb'_append_eq_left
  · exact BitVec.extractLsb'_append_eq_right
  · exact BitVec.extractLsb'_append_eq_right
  · exact BitVec.extractLsb'_append_eq_left

/-- Settles O40: no read is a draw. -/
theorem idleReadsAreExact : Obligations.IdleReadsAreExact := by
  intro s hb
  have hread (r : Reg) : busRead 4 r.offset s = (okResp (readReg s r), s) := busRead_offset_exact r (.inl hb)
  exact ⟨fun j => ⟨hread (.state j), hread (.ks j)⟩, fun j => hread (.nonce j), hread .ctrHi, hread .ctrLo,
    fun i => hread (.rk i)⟩

/-! ### Accesses while BUSY = 1 -/

/-- A word offset below the lookup port's end or in the RK window is a register's (R20). -/
theorem exists_eq_offset {off : Nat} (h4 : off % 4 = 0) (h : off < 0x058 ∨ 0x100 ≤ off ∧ off < 0x1B0) :
    ∃ r : Reg, off = r.offset := by
  cases hr : Reg.ofOffset off with
  | none =>
    rw [ofOffset_eq_none h4] at hr
    omega
  | some r => exact ⟨r, (ofOffset_eq_some h4).1 hr⟩

/-- The offsets of the registers whose write is dropped while BUSY = 1 (R297, R299). -/
theorem writeHazard_iff (r : Reg) :
    r.writeHazard = true ↔ (0x00C ≤ r.offset ∧ r.offset ≤ 0x02C) ∨ (0x040 ≤ r.offset ∧ r.offset ≤ 0x04C) := by
  cases r <;> simp [Reg.writeHazard, Reg.offset] <;> omega

/-- The offsets of the registers whose read is a draw while BUSY = 1 (R298). -/
theorem readHazard_iff (r : Reg) :
    r.readHazard = true ↔
      (0x020 ≤ r.offset ∧ r.offset ≤ 0x03C) ∨ r.offset = 0x048 ∨ r.offset = 0x04C ∨
        (0x100 ≤ r.offset ∧ r.offset ≤ 0x1AC) := by
  cases r <;> simp [Reg.readHazard, Reg.offset] <;> omega

/-- The write of a register other than CMD does not depend on BUSY. -/
theorem writeReg_eq_idle {s : State} (hb : s.busy = true) (v : Word) {r : Reg} (hr : r ≠ .cmd) :
    writeReg v s r = { writeReg v { s with busy := false } r with busy := true } := by
  have hs : s = { s with busy := true } := by rw [← hb]
  cases r with
  | cmd => exact absurd rfl hr
  | id | ctrl | status | key | state | ks | nonce | ctrHi | ctrLo | lutAddr | lutData | rk =>
    rw [hs]
    rfl

/-- Settles O41: the dropped offsets are the write hazards', and CTRL, STATUS and LUT_ADDR are not among them. -/
theorem busyWritesAreDropped : Obligations.BusyWritesAreDropped := by
  intro off v s hb h4
  refine ⟨fun h => ?_, fun h => ?_⟩
  · obtain ⟨r, rfl⟩ := exists_eq_offset h4 (by omega)
    exact busWrite_offset_dropped r v hb ((writeHazard_iff r).2 h)
  · obtain ⟨r, rfl⟩ := exists_eq_offset h4 (by omega)
    have hw : r.writeHazard = false := by
      rw [Bool.eq_false_iff, ne_eq, writeHazard_iff]
      omega
    have hr : r ≠ .cmd := by
      rintro rfl
      cases hw
    rw [busWrite_offset_undropped r v (.inr hw), busWrite_offset_undropped r v (.inr hw)]
    exact writeReg_eq_idle hb v hr

/-- Settles O42: the draws are the read hazards', and the listed registers are not among them. -/
theorem busyReadsAreDraws : Obligations.BusyReadsAreDraws := by
  intro off s hb h4
  have hread (r : Reg) (h : r.readHazard = false) : busRead 4 r.offset s = (okResp (readReg s r), s) :=
    busRead_offset_exact r (.inr h)
  refine ⟨fun h => ?_, hread .id rfl, hread .ctrl rfl, hread .status rfl, hread .cmd rfl, fun j => hread (.key j) rfl,
    fun j => hread (.nonce j) rfl, hread .lutAddr rfl, hread .lutData rfl⟩
  obtain ⟨r, rfl⟩ := exists_eq_offset h4 (by omega)
  exact busRead_offset_draw r hb ((readHazard_iff r).2 h)

/-! ### No side effects of reads -/

/-- Settles O43: a read is an error, a draw or exact, and while BUSY = 0 it is no draw. -/
theorem readsHaveNoSideEffects : Obligations.ReadsHaveNoSideEffects := by
  intro size off s
  cases ht : busTarget size off with
  | none => simp [busRead_none _ ht, setErrBus, errorResp]
  | some r =>
    by_cases hz : (s.busy && r.readHazard) = true
    · obtain ⟨hb, hr⟩ := Bool.and_eq_true_iff.1 hz
      simp [busRead_some _ ht, hb, hr, drawWord, okResp]
    · simp [busRead_some _ ht, hz, okResp]

end Sys2Proof.Machine
end

section
/-! SUPPORT. What every command's completion does and leaves (10_state.md R33, 30_encoding.md R97, 41 to 43, 44_ctr.md
section 2). -/

namespace Sys2Proof.Machine

open Host (Outcome)

/-! ### The completion of every command -/

/-- Settles O7: with the key it needs a command has its effect, whose frame ends in the completion. -/
theorem everyCommandCompletes : Obligations.EveryCommandCompletes := by
  intro i s
  refine ⟨fun hkey => ⟨_, exec_eq_next i s, ?_⟩, exec_of_noKey⟩
  obtain ⟨hk, hv, _⟩ | ⟨_, he⟩ := exec_next_cases (exec_eq_next i s)
  · simp [hkey hk] at hv
  · rw [he.frame]
    exact ⟨rfl, rfl, rfl, rfl⟩

/-- Settles O8: the limits of a completion's effect; an end with ERR_NOKEY writes none of these fields. -/
theorem commandsKeepTheirWriteSets : Obligations.CommandsKeepTheirWriteSets := by
  intro i s t h
  obtain ⟨_, _, rfl⟩ | ⟨_, he⟩ := exec_next_cases h
  · exact ⟨⟨rfl, rfl, rfl, rfl, rfl, rfl, rfl, rfl, rfl⟩, rfl, rfl, rfl, fun _ => ⟨rfl, rfl⟩,
      fun _ _ => ⟨rfl, rfl, rfl⟩, fun _ => rfl⟩
  · refine ⟨?_, ?_, ?_, ?_, he.schedule, he.counter, he.block⟩ <;> rw [he.frame]
    exacts [⟨rfl, rfl, rfl, rfl, rfl, rfl, rfl, rfl, rfl⟩, rfl, rfl, rfl]

/-- Settles O9. -/
theorem nopOnlyCompletes : Obligations.NopOnlyCompletes := exec_nop

/-! ### The round primitives -/

/-- Settles O10: both commands map STATE by a table applied to each byte. -/
theorem subBytesCommandsMapEachByte : Obligations.SubBytesCommandsMapEachByte := by
  intro s
  refine ⟨⟨_, exec_subBytes s, fun i => ?_, rfl⟩, ⟨_, exec_invSubBytes s, fun i => ?_, rfl⟩⟩
  · simp [mapState, subBytes]
  · simp [mapState, invSubBytes]

/-- A rotation left of a packed word moves its bytes to lower places (R11). -/
theorem pack_rotateLeft (a b c d : Byte) (r : Fin 4) :
    (pack a b c d).rotateLeft (8 * r.val) =
      pack (![a, b, c, d] r) (![a, b, c, d] (r + 1)) (![a, b, c, d] (r + 2)) (![a, b, c, d] (r + 3)) := by
  refine BitVec.eq_of_getLsbD_eq fun k hk => ?_
  rw [BitVec.getLsbD_rotateLeft]
  match r with
  | 0 | 1 | 2 | 3 =>
    simp [pack_getLsbD]
    grind

/-- The rotations by the same amount undo each other. -/
theorem rotateRight_rotateLeft (w : Word) (n : Nat) : (w.rotateLeft n).rotateRight n = w := by
  refine BitVec.eq_of_getLsbD_eq fun k hk => ?_
  rw [BitVec.getLsbD_rotateRight, BitVec.getLsbD_rotateLeft, BitVec.getLsbD_rotateLeft]
  have hn : n % 32 < 32 := Nat.mod_lt _ (by decide)
  generalize n % 32 = m at hn ⊢
  by_cases hlow : k < 32 - m
  · have hkm : m + k - m = k := by omega
    simp [hlow, show ¬ m + k < m by omega, show m + k < 32 by omega, hkm]
  · have hkm : 32 - m + (k - (32 - m)) = k := by omega
    simp [hlow, show k - (32 - m) < m by omega, hk, hkm]

/-- Row r of the state view as a word, column 0 most significant (R145). -/
def rowWord (b : Block) (r : Fin 4) : Word := pack (stateAt b r 0) (stateAt b r 1) (stateAt b r 2) (stateAt b r 3)

theorem rowWord_shiftRows (b : Block) (r : Fin 4) :
    rowWord (shiftRows b) r = (rowWord b r).rotateLeft (8 * r.val) := by
  simp only [rowWord, pack_rotateLeft, stateAt_shiftRows]
  match r with
  | 0 | 1 | 2 | 3 => rfl

theorem rowWord_invShiftRows (b : Block) (r : Fin 4) :
    rowWord (invShiftRows b) r = (rowWord b r).rotateRight (8 * r.val) := by
  rw [← shiftRows_invShiftRows b, rowWord_shiftRows, rotateRight_rotateLeft, shiftRows_invShiftRows]

/-- Settles O12: ShiftRows rotates the rows' words, and InvShiftRows undoes it. -/
theorem shiftRowsIsAWordRotation : Obligations.ShiftRowsIsAWordRotation := fun b r =>
  ⟨rowWord_shiftRows b r, rowWord_invShiftRows b r⟩

/-- Settles O13: the commands multiply each column by the two circulant matrices; 01 is the unit of the product. -/
theorem mixColumnsCommandsMultiplyColumns : Obligations.MixColumnsCommandsMultiplyColumns := by
  intro s
  refine ⟨⟨_, exec_mixColumns s, fun r c => ?_, rfl⟩, ⟨_, exec_invMixColumns s, fun r c => ?_, rfl⟩⟩
  · refine (stateAt_mixColumns s.state r c).trans ?_
    simp [circulant_apply, mixRow]
  · exact stateAt_invMixColumns s.state r c

@[simp] theorem unpack_xor (v w : Word) (t : Fin 4) : unpack (v ^^^ w) t = unpack v t ^^^ unpack w t :=
  BitVec.extractLsb'_xor

/-- Words are combined bytewise. -/
theorem pack_xor (a0 a1 a2 a3 b0 b1 b2 b3 : Byte) :
    pack (a0 ^^^ b0) (a1 ^^^ b1) (a2 ^^^ b2) (a3 ^^^ b3) = pack a0 a1 a2 a3 ^^^ pack b0 b1 b2 b3 := by
  rw [← pack_unpack (pack a0 a1 a2 a3 ^^^ pack b0 b1 b2 b3)]
  simp

theorem wordOf_addRoundKey (b k : Block) (j : Fin 4) : wordOf (addRoundKey b k) j = wordOf b j ^^^ wordOf k j := by
  simp only [wordOf, addRoundKey, xorBlock_getElem, pack_xor]

/-- ADD_ROUND_KEY r with a valid key (R156). -/
theorem exec_addRoundKey_valid {s : State} (hv : s.keyValid = true) (r : Fin 11) :
    exec (Instr.addRoundKey r) s = .next (complete (mapState (addRoundKey · (roundKey s.rk r)) s)) := by
  rw [exec_addRoundKey, addRoundKeyStep, completeWithKey_valid _ hv]

/-- Settles O14: the round key's words are the schedule's. -/
theorem addRoundKeyXorsScheduleWords : Obligations.AddRoundKeyXorsScheduleWords := by
  refine ⟨by decide, fun r s hv => ⟨_, exec_addRoundKey_valid hv r, fun j => ?_, rfl⟩⟩
  rw [← wordOf_roundKey]
  exact wordOf_addRoundKey s.state (roundKey s.rk r) j

/-! ### The key schedule -/

/-- The first four words are the key's (R170). -/
theorem keyExpansion_key (k : Block) (j : Fin 4) : (keyExpansion k)[j.val] = wordOf k j := by
  rw [keyExpansion_getElem]
  match j with
  | 0 | 1 | 2 | 3 => rfl

/-- The recurrence of R174. -/
theorem keyExpansion_recurrence (k : Block) (i : Nat) (h4 : 4 ≤ i) (hi : i < 44) :
    (keyExpansion k)[i] = (keyExpansion k)[i - 4] ^^^ keyTemp i (keyExpansion k)[i - 1] := by
  obtain ⟨n, rfl⟩ := Nat.exists_eq_add_of_le' h4
  simp only [keyExpansion_getElem, Nat.add_sub_cancel]
  rfl

/-- Settles O15: the schedule's recurrence, and R171 to R173 on packed words. -/
theorem keyExpandFillsTheSchedule : Obligations.KeyExpandFillsTheSchedule := by
  refine ⟨fun s => ⟨_, exec_keyExpand s, keyExpansion_key s.key, keyExpansion_recurrence s.key, rfl⟩,
    fun a0 a1 a2 a3 => ⟨pack_rotateLeft a0 a1 a2 a3 1, ?_⟩, by decide⟩
  simp [subWord]

end Sys2Proof.Machine
end

section
/-! SUPPORT. The laws of multiplication in GF(2^8), gathered (40_gf_tables.md R113). -/

namespace Sys2Proof.Machine

/-- Settles O28: the ring laws of the product. -/
theorem gmulLaws : Obligations.GmulLaws := fun a b c =>
  ⟨gmul_comm a b, gmul_assoc a b c, gmul_xor a b c, gmul_zero a, gmul_one a⟩

end Sys2Proof.Machine
end

section
/-! SUPPORT. Cipher and InvCipher undo each other, and ENCRYPT is its sequence of round-primitive commands
(43_block_cipher.md R190 to R197). -/

namespace Sys2Proof.Machine

open Host (Outcome)

/-- Settles O16: with a valid key the commands map STATE by Cipher and InvCipher. -/
theorem encryptAndDecryptApplyTheCipher : Obligations.EncryptAndDecryptApplyTheCipher := by
  intro s hv
  rw [exec_encrypt, exec_decrypt, completeWithKey_valid _ hv, completeWithKey_valid _ hv]
  exact ⟨rfl, rfl⟩

/-! ### Cipher and InvCipher -/

/-- A fold is undone by the fold over the reversed list when each step is undone, seen through `h`. -/
theorem foldl_reverse_cancel {α β : Type} {f g : α → β → α} {h : α → α} (hstep : ∀ a r, g (h (f a r)) r = h a)
    (rs : List β) (a : α) : rs.reverse.foldl g (h (rs.foldl f a)) = h a := by
  induction rs generalizing a with
  | nil => rfl
  | cons r rs ih =>
    rw [List.foldl_cons, List.reverse_cons, List.foldl_append, ih, List.foldl_cons, hstep, List.foldl_nil]

theorem invCipherRound_cipherRound (rk : Schedule) (b : Block) (r : Fin 11) :
    invCipherRound rk (shiftRows (subBytes (cipherRound rk b r))) r = shiftRows (subBytes b) := by
  simp [invCipherRound, cipherRound]

theorem cipherRound_invCipherRound (rk : Schedule) (b : Block) (r : Fin 11) :
    cipherRound rk (invSubBytes (invShiftRows (invCipherRound rk b r))) r = invSubBytes (invShiftRows b) := by
  simp [invCipherRound, cipherRound]

theorem invCipher_cipher (b : Block) (rk : Schedule) : invCipher (cipher b rk) rk = b := by
  have hrounds := foldl_reverse_cancel (h := fun b => shiftRows (subBytes b)) (invCipherRound_cipherRound rk)
    [1, 2, 3, 4, 5, 6, 7, 8, 9] (addRoundKey b (roundKey rk 0))
  simp only [List.reverse_cons, List.reverse_nil, List.nil_append, List.cons_append] at hrounds
  simp only [invCipher, cipher, addRoundKey_addRoundKey, hrounds, invShiftRows_shiftRows, invSubBytes_subBytes]

theorem cipher_invCipher (b : Block) (rk : Schedule) : cipher (invCipher b rk) rk = b := by
  have hrounds := foldl_reverse_cancel (h := fun b => invSubBytes (invShiftRows b)) (cipherRound_invCipherRound rk)
    [9, 8, 7, 6, 5, 4, 3, 2, 1] (addRoundKey b (roundKey rk 10))
  simp only [List.reverse_cons, List.reverse_nil, List.nil_append, List.cons_append] at hrounds
  simp only [invCipher, cipher, addRoundKey_addRoundKey, hrounds, subBytes_invSubBytes, shiftRows_invShiftRows]

/-- Settles O21: round by round, from the inner rounds out. -/
theorem cipherAndInvCipherUndoEachOther : Obligations.CipherAndInvCipherUndoEachOther := fun b rk =>
  ⟨invCipher_cipher b rk, cipher_invCipher b rk⟩

/-! ### ENCRYPT as primitive commands -/

/-- The state after a completed block command that left `b` in STATE. -/
def blockDone (s : State) (b : Block) : State := complete { s with state := b }

theorem exec_addRoundKey_blockDone {s : State} (hv : s.keyValid = true) (b : Block) (r : Fin 11) :
    exec (Instr.addRoundKey r) (blockDone s b) = .next (blockDone s (addRoundKey b (roundKey s.rk r))) :=
  exec_addRoundKey_valid (s := blockDone s b) hv r

theorem execAll_cons_next {i : Instr} {s t : State} (h : exec i s = .next t) (is : List Instr) :
    execAll (i :: is) s = execAll is t := by
  simp only [execAll, h]

/-- The commands of a full round with round key r (R190). -/
def roundCommands (r : Fin 11) : List Instr := [.subBytes, .shiftRows, .mixColumns, Instr.addRoundKey r]

/-- A list of full rounds, command by command, folds Cipher's round over STATE. -/
theorem execAll_rounds {s : State} (hv : s.keyValid = true) (rest : List Instr) (rs : List (Fin 11)) (b : Block) :
    execAll (rs.flatMap roundCommands ++ rest) (blockDone s b) =
      execAll rest (blockDone s (rs.foldl (cipherRound s.rk) b)) := by
  induction rs generalizing b with
  | nil => rfl
  | cons r rs ih =>
    have hround : execAll ((r :: rs).flatMap roundCommands ++ rest) (blockDone s b) =
        execAll (Instr.addRoundKey r :: (rs.flatMap roundCommands ++ rest))
          (blockDone s (mixColumns (shiftRows (subBytes b)))) := rfl
    rw [hround, execAll_cons_next (exec_addRoundKey_blockDone hv _ r), ih]
    rfl

/-- Settles O19: the first command, the nine full rounds, and the last round's three commands. -/
theorem encryptEqualsItsPrimitiveCommands : Obligations.EncryptEqualsItsPrimitiveCommands := by
  intro s hv
  have hfirst : exec .addRoundKey0 s = .next (blockDone s (addRoundKey s.state (roundKey s.rk 0))) :=
    exec_addRoundKey_valid hv 0
  have hrounds := execAll_rounds hv [.subBytes, .shiftRows, .addRoundKey10] [1, 2, 3, 4, 5, 6, 7, 8, 9]
    (addRoundKey s.state (roundKey s.rk 0))
  have hlast (b : Block) : execAll [.subBytes, .shiftRows, .addRoundKey10] (blockDone s b) =
      .next (blockDone s (addRoundKey (shiftRows (subBytes b)) (roundKey s.rk 10))) :=
    execAll_cons_next (exec_addRoundKey_blockDone hv _ 10) []
  rw [exec_encrypt, completeWithKey_valid _ hv]
  exact (execAll_cons_next hfirst _).trans (hrounds.trans (hlast _))

end Sys2Proof.Machine
end

section
/-! SUPPORT. The counter block's layout, and a CTR command's keystream and counter (44_ctr.md R211 to R217). -/

namespace Sys2Proof.Machine

open Host (Outcome)

/-! ### The counter block -/

/-- Under BE the counter's bytes are those of its two words, most significant first (R211). -/
theorem unpack_extractLsb' (c : BitVec 64) (a : Nat) (t : Fin 4) :
    unpack (c.extractLsb' a 32) t = c.extractLsb' (a + 8 * (3 - t.val)) 8 := by
  ext k hk
  simp [unpack]
  grind

/-- Settles O22: the block's words under BE, and its bytes under LE. -/
theorem counterBlockLayout : Obligations.CounterBlockLayout := by
  refine ⟨rfl, fun s => ⟨?_, ?_, ?_, ?_⟩, fun n c i => ⟨?_, ?_, ?_⟩⟩
  · simp [wordOf, counterBlock, nonceWord]
  · simp [wordOf, counterBlock, nonceWord]
  · rw [← pack_unpack (ctrHiWord s)]
    simp [wordOf, counterBlock, counterByte, ctrHiWord, unpack_extractLsb']
  · rw [← pack_unpack (ctrLoWord s)]
    simp [wordOf, counterBlock, counterByte, ctrLoWord, unpack_extractLsb']
  · simp [counterBlock]
  · simp [counterBlock, counterByte]
    grind
  · simp [counterBlock, counterByte]

/-! ### The counter -/

theorem ctrWraps_iff (c : BitVec 64) : ctrWraps c = true ↔ c.toNat = 2 ^ 64 - 1 := by
  rw [ctrWraps, beq_iff_eq, ← BitVec.toNat_inj]
  simp

/-- What a CTR command computes: the keystream, the next counter value and the wrap warning (R212 to R214). -/
structure CtrEffect (s t : State) : Prop where
  ks       : t.ks = keystream s
  ctr      : t.ctr = s.ctr + 1
  ctrWrap  : t.ctrWrap = (s.ctrWrap || ctrWraps s.ctr)
  nonce    : t.nonce = s.nonce
  rk       : t.rk = s.rk
  keyValid : t.keyValid = s.keyValid

theorem CtrEffect.ctr_toNat {s t : State} (h : CtrEffect s t) : t.ctr.toNat = (s.ctr.toNat + 1) % 2 ^ 64 := by
  rw [h.ctr, BitVec.toNat_add]
  rfl

theorem CtrEffect.ctrWrap_iff {s t : State} (h : CtrEffect s t) :
    t.ctrWrap = true ↔ s.ctrWrap = true ∨ s.ctr.toNat = 2 ^ 64 - 1 := by
  rw [h.ctrWrap, Bool.or_eq_true, ctrWraps_iff]

/-- CTR_GEN with a valid key (R213). -/
theorem exec_ctrGen_valid {s : State} (hv : s.keyValid = true) :
    exec .ctrGen s = .next (complete (incrementCtr (loadKeystream s))) := by
  rw [exec_ctrGen, completeWithKey_valid _ hv]

theorem ctrEffect_ctrGen (s : State) : CtrEffect s (complete (incrementCtr (loadKeystream s))) := by
  constructor <;> simp

theorem ctrEffect_ctrXor (s : State) : CtrEffect s (complete (incrementCtr (xorKeystream (loadKeystream s)))) := by
  constructor <;> simp

/-- Settles O23: KS, the counter and its warning are CTR_GEN's whole effect. -/
theorem ctrGenMakesKeystream : Obligations.CtrGenMakesKeystream := by
  intro s hv
  have he := ctrEffect_ctrGen s
  exact ⟨_, exec_ctrGen_valid hv, he.ks, he.ctr_toNat, he.ctrWrap_iff, by simp [complete, incrementCtr, loadKeystream]⟩

/-- Settles O24: as CTR_GEN, and STATE is combined with KS byte by byte. -/
theorem ctrXorCombinesKeystream : Obligations.CtrXorCombinesKeystream := by
  intro s hv
  have he := ctrEffect_ctrXor s
  refine ⟨_, exec_ctrXor_valid hv, he.ks, fun i => ?_, he.ctr_toNat, he.ctrWrap_iff, ?_⟩
  · simp [addRoundKey]
  · simp [complete, incrementCtr, xorKeystream, loadKeystream]

/-! ### CTR commands one after the other -/

theorem exec_ctr_valid {s : State} (hv : s.keyValid = true) {i : Instr} (hi : i = .ctrGen ∨ i = .ctrXor) :
    ∃ t, exec i s = .next t ∧ CtrEffect s t := by
  obtain rfl | rfl := hi
  · exact ⟨_, exec_ctrGen_valid hv, ctrEffect_ctrGen s⟩
  · exact ⟨_, exec_ctrXor_valid hv, ctrEffect_ctrXor s⟩

/-- A list of CTR commands moves the counter on by its length and keeps the nonce and the schedule (R216). -/
theorem execAll_ctr (cmds : List Instr) {s : State} (hc : ∀ i ∈ cmds, i = .ctrGen ∨ i = .ctrXor)
    (hv : s.keyValid = true) :
    ∃ t, execAll cmds s = .next t ∧ t.ctr = s.ctr + BitVec.ofNat 64 cmds.length ∧ t.nonce = s.nonce ∧ t.rk = s.rk ∧
      t.keyValid = true := by
  induction cmds generalizing s with
  | nil => exact ⟨s, rfl, by simp, rfl, rfl, hv⟩
  | cons i is ih =>
    obtain ⟨t, ht, he⟩ := exec_ctr_valid hv (hc i List.mem_cons_self)
    obtain ⟨u, hu, hctr, hnonce, hrk, huv⟩ := ih (fun j hj => hc j (List.mem_cons_of_mem i hj)) (he.keyValid.trans hv)
    refine ⟨u, (execAll_cons_next ht is).trans hu, ?_, hnonce.trans he.nonce, hrk.trans he.rk, huv⟩
    rw [hctr, he.ctr, List.length_cons, BitVec.ofNat_add, BitVec.add_assoc, BitVec.add_comm (BitVec.ofNat 64 is.length)]
    rfl

/-- Settles O26: the next command makes the keystream of the counter value it finds. -/
theorem counterIsMonotonic : Obligations.CounterIsMonotonic := by
  intro cmds s hc hv
  obtain ⟨t, ht, hctr, hnonce, hrk, htv⟩ := execAll_ctr cmds hc hv
  refine ⟨t, ht, hctr, fun i hi => ?_⟩
  obtain ⟨u, hu, he⟩ := exec_ctr_valid htv hi
  refine ⟨u, hu, he.ks.trans ?_⟩
  rw [keystream, hctr, hnonce, hrk]
  rfl

/-- Settles O27: both commands make the keystream, which is a function of the key, the nonce and the counter value. -/
theorem keystreamDependsOnKeyNonceCounter : Obligations.KeystreamDependsOnKeyNonceCounter := by
  intro s s' i j hi hj hs hs' hv hv' hkey hnonce hctr
  obtain ⟨t, ht, he⟩ := exec_ctr_valid hv hi
  obtain ⟨t', ht', he'⟩ := exec_ctr_valid hv' hj
  exact ⟨t, t', ht, ht', by rw [he.ks, he'.ks, keystream_congr hs hs' hv hv' hkey hnonce hctr]⟩

end Sys2Proof.Machine
end

section
/-! SUPPORT. The reset state and the reset step (10_state.md R45, 70_reset_and_hazards.md R290, R291). -/

namespace Sys2Proof.Machine

/-- Settles O45: the state is idle, so its reads are exact, and the values are read off. -/
theorem resetStateHasTheStatedValues : Obligations.ResetStateHasTheStatedValues := by
  have hread (r : Reg) : (busRead 4 r.offset State.reset).1.data = readReg State.reset r :=
    congrArg (·.1.data) (busRead_offset_exact r (.inl rfl))
  exact ⟨hread .id, hread .ctrl, hread .status, rfl, rfl, rfl, rfl, hread .ctrHi, hread .ctrLo, hread .lutAddr,
    hread .lutData, fun i => hread (.rk i), rfl, rfl, rfl, rfl, rfl⟩

theorem statusWord_applyReset (s : State) : statusWord (applyReset s) = 0 := by
  simp [statusWord]

/-- Settles O46: the step is the reset, whatever the state. -/
theorem resetTakesPrecedence : Obligations.ResetTakesPrecedence := fun _ hr =>
  ⟨_, step_of_rst hr, rfl, rfl, rfl, rfl, rfl, rfl, statusWord_applyReset _, rfl, rfl, rfl, rfl, rfl, rfl, rfl⟩

end Sys2Proof.Machine
end

section
/-! SUPPORT. The host's turn, line by line (30_encoding.md R101, 20_memory.md R70, R71). -/

namespace Sys2Proof.Machine

open Host (Outcome)

section lines

variable {off : Nat} (s : State)

theorem hostLine_wr (size : Nat) (v : Word) (h : off < 0x200) :
    hostLine (.wr size off v) s = .next (nextLine (receive (busWrite size off v s).1 (busWrite size off v s).2)) :=
  if_neg (Nat.not_le.2 h)

theorem hostLine_rd (size name : Nat) (h : off < 0x200) :
    hostLine (.rd size off name) s =
      .next (nextLine (keepName name (busRead size off s).1.data
        (receive (busRead size off s).1 (busRead size off s).2))) :=
  if_neg (Nat.not_le.2 h)

theorem hostLine_poll_done (mask val : Word) (h : off < 0x200) (hd : (busRead 4 off s).1.data &&& mask = val) :
    hostLine (.poll off mask val) s = .next (nextLine (receive (busRead 4 off s).1 (busRead 4 off s).2)) :=
  (if_neg (Nat.not_le.2 h)).trans (if_pos hd)

theorem hostLine_poll_again (mask val : Word) (h : off < 0x200) (hd : (busRead 4 off s).1.data &&& mask ≠ val) :
    hostLine (.poll off mask val) s = .next (receive (busRead 4 off s).1 (busRead 4 off s).2) :=
  (if_neg (Nat.not_le.2 h)).trans (if_neg hd)

theorem hostLine_outside (size name : Nat) (v mask val : Word) (h : 0x200 ≤ off) {op : HostOp}
    (hop : op = .wr size off v ∨ op = .rd size off name ∨ op = .poll off mask val) :
    hostLine op s = .fault (.outsideWindow off) := by
  obtain rfl | rfl | rfl := hop <;> exact if_pos h

end lines

theorem nextLine_receive_frame (r : BusResp) (s : State) :
    nextLine (receive r s) =
      { s with supply := (nextLine (receive r s)).supply, host := (nextLine (receive r s)).host } := by
  rw [nextLine, receive_eq]

theorem nextLine_keepName_receive_frame (name : Nat) (v : Word) (r : BusResp) (s : State) :
    nextLine (keepName name v (receive r s)) =
      { s with
        supply := (nextLine (keepName name v (receive r s))).supply
        host   := (nextLine (keepName name v (receive r s))).host } := by
  rw [nextLine, keepName, receive_eq]

/-- Settles O44: the host's turn is its line's meaning, after the turn has passed. -/
theorem hostLineMakesItsAccess : Obligations.HostLineMakesItsAccess := by
  intro s hr he
  have hline {op : HostOp} (h : hostNext s = some op) : step s = hostLine op (passTurn s) :=
    (step_of_engineCommand_none hr he).trans (hostTurn_of_some h)
  refine ⟨fun size off v h hw => ?_, fun size off name h hw => ?_, fun off mask val h hw => ?_,
    fun size off v name mask val hw h => ?_, fun l h => hline h, fun name l h => ⟨fun hl => ?_, fun hl => ?_,
      fun v hl hv => ⟨fun place hp hf => ?_, fun hf => ?_⟩⟩, fun h => hline h, fun h => ?_⟩
  · refine ⟨_, (hline h).trans (hostLine_wr _ size v hw), nextLine_receive_frame _ _, ?_⟩
    simp
  · refine ⟨_, (hline h).trans (hostLine_rd _ size name hw), nextLine_keepName_receive_frame _ _ _ _, ?_⟩
    simp +contextual [lookupName_setName_of_ne]
  · by_cases hd : (busRead 4 off (passTurn s)).1.data &&& mask = val
    · refine ⟨_, (hline h).trans (hostLine_poll_done _ mask val hw hd), nextLine_receive_frame _ _, ?_⟩
      simp [hd]
    · refine ⟨_, (hline h).trans (hostLine_poll_again _ mask val hw hd), receive_eq _ _, ?_⟩
      simp [hd]
  · obtain h | h | h := h
    · exact (hline h).trans (hostLine_outside _ size name v mask val hw (.inl rfl))
    · exact (hline h).trans (hostLine_outside _ size name v mask val hw (.inr (.inl rfl)))
    · exact (hline h).trans (hostLine_outside _ size name v mask val hw (.inr (.inr rfl)))
  · exact (hline h).trans (hostLine_jnz_unread hl)
  · exact (hline h).trans (hostLine_jnz_zero hl)
  · have hfind : findLabel l 0 s.host.prog = some place := by simpa using findLabel_first 0 hp hf
    exact (hline h).trans (hostLine_jnz_jump hl hv hfind)
  · exact (hline h).trans (hostLine_jnz_unknown hl hv (findLabel_absent 0 hf))
  · exact (step_of_engineCommand_none hr he).trans (hostTurn_of_none h)

end Sys2Proof.Machine
end

section
/-! SUPPORT. What a step can do to DONE, to ERR_BUSY and to a pending command's operands (60_exceptions.md R267,
70_reset_and_hazards.md R297 to R304). -/

namespace Sys2Proof.Machine

open Host (Outcome)

/-! ### DONE -/

/-- A write to CMD raises DONE only by rejecting the word, which leaves BUSY 0 (R95). -/
theorem writeCmd_done_rises {v : Word} {s : State} (hs : s.done = false) (ht : (writeCmd v s).done = true) :
    s.busy = false ∧ (writeCmd v s).busy = false ∧ ((writeCmd v s).errCmd = true ∨ (writeCmd v s).errNokey = true) := by
  obtain ⟨_, e⟩ | ⟨hb, _, e⟩ | ⟨_, hb, _, _, _, e⟩ | ⟨_, _, _, _, e⟩ := writeCmd_cases v s <;> rw [e] at ht ⊢
  · simp [hs] at ht
  · exact ⟨hb, hb, .inl rfl⟩
  · exact ⟨hb, hb, .inr rfl⟩
  · simp at ht

/-- CMD is the one register whose write raises DONE. -/
theorem writeReg_done_rises {v : Word} {s : State} {r : Reg} (hs : s.done = false) (ht : (writeReg v s r).done = true) :
    r = .cmd := by
  cases r with
  | cmd => rfl
  | status => simp [writeReg, hs] at ht
  | id | ctrl | key | state | ks | nonce | ctrHi | ctrLo | lutAddr | lutData | rk =>
    exact absurd (hs.symm.trans ht) nofun

theorem busWrite_done_rises {size off : Nat} {v : Word} {s : State} (hs : s.done = false)
    (ht : (busWrite size off v s).2.done = true) :
    size = 4 ∧ off = 0x00C ∧ (busWrite size off v s).2 = writeCmd v s := by
  obtain ⟨_, e⟩ | ⟨r, _, _, _, e⟩ | ⟨r, htarget, _, e⟩ := busWrite_state_cases size off v s <;> rw [e] at ht ⊢
  · simp [hs] at ht
  · simp [hs] at ht
  · obtain rfl := writeReg_done_rises hs ht
    obtain ⟨hsize, hoff⟩ := busTarget_eq_some.1 htarget
    exact ⟨hsize, hoff, rfl⟩

/-- Settles O50: besides a completion only a write to CMD that rejects its word raises DONE. -/
theorem doneRisesOnCompletionOrRejection : Obligations.DoneRisesOnCompletionOrRejection := by
  intro s t h hr hs ht
  obtain hx | ⟨_, ⟨_, _, e⟩ | ⟨size, off, v, hn, e⟩⟩ := step_engine_cases hr h
  · exact .inl hx
  · rw [e] at ht
    simp [hs] at ht
  · rw [e] at ht
    obtain ⟨rfl, rfl, hw⟩ := busWrite_done_rises (s := passTurn s) hs ht
    rw [hw] at ht e
    obtain ⟨hb, htb, herr⟩ := writeCmd_done_rises (s := passTurn s) hs ht
    rw [e]
    exact .inr ⟨v, hn, hb, htb, herr⟩

/-! ### ERR_BUSY -/

/-- No completion sets ERR_BUSY (R97). -/
theorem exec_errBusy {i : Instr} {s t : State} (h : exec i s = .next t) : t.errBusy = s.errBusy := by
  obtain ⟨_, he, _⟩ := commandsKeepTheirWriteSets i s t h
  exact he

/-- A register's write that is not dropped never raises ERR_BUSY. -/
theorem writeReg_errBusy {v : Word} {s : State} {r : Reg} (hw : s.busy = false ∨ r.writeHazard = false)
    (hs : s.errBusy = false) : (writeReg v s r).errBusy = false := by
  cases r with
  | cmd =>
    have hb : s.busy = false := by simpa [Reg.writeHazard] using hw
    simp only [writeReg]
    obtain ⟨hb', _⟩ | ⟨_, _, e⟩ | ⟨_, _, _, _, _, e⟩ | ⟨_, _, _, _, e⟩ := writeCmd_cases v s
    · simp [hb] at hb'
    all_goals
      rw [e]
      exact hs
  | status => simp [writeReg, hs]
  | id | ctrl | key | state | ks | nonce | ctrHi | ctrLo | lutAddr | lutData | rk => exact hs

/-- Only a dropped write raises ERR_BUSY (R265). -/
theorem busWrite_errBusy_rises {size off : Nat} {v : Word} {s : State} (hs : s.errBusy = false)
    (ht : (busWrite size off v s).2.errBusy = true) :
    s.busy = true ∧ ∃ r, busTarget size off = some r ∧ r.writeHazard = true := by
  obtain ⟨_, e⟩ | ⟨r, htarget, hb, hw, _⟩ | ⟨r, _, hw, e⟩ := busWrite_state_cases size off v s
  · simp [e, hs] at ht
  · exact ⟨hb, r, htarget, hw⟩
  · simp [e, writeReg_errBusy hw hs] at ht

/-- Settles O55: the line of a host that keeps its duty makes no write that is dropped. -/
theorem dutifulHostNeverSetsErrBusy : Obligations.DutifulHostNeverSetsErrBusy := by
  intro s t hduty hr h hs
  obtain ⟨_, _, hx⟩ | ⟨_, ⟨_, _, e⟩ | ⟨size, off, v, hn, e⟩⟩ := step_engine_cases hr h
  · exact (exec_errBusy hx).trans hs
  · rw [e]
    exact hs
  · rw [e, Bool.eq_false_iff]
    intro ht
    obtain ⟨hb, r, htarget, hw⟩ := busWrite_errBusy_rises (s := passTurn s) hs ht
    simpa [HostOp.breaksDuty, htarget, hw] using hduty hb _ hn

/-! ### A pending command -/

/-- What a running command waits for and works on: the command, the turns left, its operands and results. -/
structure SameRun (s t : State) : Prop where
  busy     : t.busy = s.busy
  pend     : t.pend = s.pend
  latency  : t.latency = s.latency
  state    : t.state = s.state
  key      : t.key = s.key
  nonce    : t.nonce = s.nonce
  ctr      : t.ctr = s.ctr
  rk       : t.rk = s.rk
  ks       : t.ks = s.ks
  keyValid : t.keyValid = s.keyValid

/-- The fields a running command does not depend on are free. -/
theorem sameRun_of_fields (s : State) (ie d eb ec en w e r : Bool) (lt : BitVec 3) (li : BitVec 8) (p : Supply)
    (h : HostAgent) :
    SameRun s { s with
      irqEn := ie, done := d, errBusy := eb, errCmd := ec, errNokey := en, ctrWrap := w, errBus := e, rst := r,
      lutTable := lt, lutIndex := li, supply := p, host := h } :=
  ⟨rfl, rfl, rfl, rfl, rfl, rfl, rfl, rfl, rfl, rfl⟩

/-- While BUSY = 1 a write of the other registers touches no operand, and a write of an operand is dropped (R297). -/
theorem busWrite_sameRun {s : State} (hb : s.busy = true) (size off : Nat) (v : Word) :
    SameRun s (busWrite size off v s).2 := by
  obtain ⟨_, e⟩ | ⟨r, _, _, _, e⟩ | ⟨r, _, hw, e⟩ := busWrite_state_cases size off v s <;> rw [e]
  · exact sameRun_of_fields ..
  · exact sameRun_of_fields ..
  · have hw : r.writeHazard = false := by simpa [hb] using hw
    cases r with
    | id | ctrl | status | ks | lutAddr | lutData | rk => exact sameRun_of_fields ..
    | cmd | key | state | nonce | ctrHi | ctrLo => cases hw

/-- While BUSY = 1 a host turn is one turn of the wait and nothing else to the running command (R303, R304). -/
theorem hostTurn_sameRun {s t : State} (hb : s.busy = true) (h : hostTurn s = .next t) : SameRun (passTurn s) t := by
  obtain ⟨size, off, e⟩ | ⟨size, off, v, _, e⟩ | e := hostTurn_engine_cases h <;> rw [e]
  · obtain ⟨b, p, eb, _⟩ := busRead_state_eq size off (passTurn s)
    rw [eb]
    exact sameRun_of_fields ..
  · exact { busWrite_sameRun (s := passTurn s) hb size off v with }
  · exact sameRun_of_fields ..

theorem exec_busy {i : Instr} {s t : State} (h : exec i s = .next t) : t.busy = false := by
  obtain ⟨_, _, rfl⟩ | ⟨_, he⟩ := exec_next_cases h
  · rfl
  · exact congrArg State.busy he.frame

/-- Settles O53: the engine completes the command when no turns are left, else a turn passes. -/
theorem pendingCommandDrawsNearer : Obligations.PendingCommandDrawsNearer := by
  intro s t i hb hp hr h
  by_cases hl : s.latency = 0
  · have hx : exec i s = .next t :=
      (step_of_engineCommand_some hr (engineCommand_eq_some.2 ⟨hb, hl, hp⟩)).symm.trans h
    exact .inl ⟨hl, hx, exec_busy hx⟩
  · have hturn : hostTurn s = .next t :=
      (step_of_engineCommand_none hr (engineCommand_eq_none.2 (.inr (.inl hl)))).symm.trans h
    have hrun := hostTurn_sameRun hb hturn
    have hlatency : t.latency + 1 = s.latency := by
      rw [hrun.latency, passTurn_latency]
      omega
    exact .inr ⟨hrun.busy.trans hb, hrun.pend.trans hp, hlatency, hrun.state, hrun.key, hrun.nonce, hrun.ctr, hrun.rk,
      hrun.ks, hrun.keyValid⟩

end Sys2Proof.Machine
end

section
/-! SUPPORT. The host lines `run M`: the CMD write, the polls of BUSY while the latency passes, the completion, and the
last poll (30_encoding.md R102, 70_reset_and_hazards.md R300, R304). -/

namespace Sys2Proof.Machine

open Host (Outcome)

/-! ### Runs -/

theorem run_succ_of_next {M : Host.Core} {s t : M.State} (h : M.step s = .next t) (n : Nat) :
    M.run (n + 1) s = M.run n t := by
  simp only [Host.Core.run, h]

/-- Some number of steps lead from `s` to `t`. -/
abbrev Reaches : State → State → Prop := Relation.ReflTransGen fun s t => step s = .next t

theorem Reaches.exists_run {s t : State} (h : Reaches s t) : ∃ n, Host.Core.run core n s = .next t := by
  induction h using Relation.ReflTransGen.head_induction_on with
  | refl => exact ⟨0, rfl⟩
  | head hstep _ ih =>
    obtain ⟨n, hn⟩ := ih
    exact ⟨n + 1, (run_succ_of_next (M := core) hstep n).trans hn⟩

/-! ### A completion from a state that waits -/

/-- `s` with the environment of `e`: its latency, supply and host. -/
def withEnvironmentOf (e s : State) : State := { s with latency := e.latency, supply := e.supply, host := e.host }

/-- `s` with the environment of `e` and the bits a completion overwrites: BUSY, DONE and PEND. -/
def withRunOf (e s : State) : State :=
  { withEnvironmentOf e s with busy := e.busy, done := e.done, pend := e.pend }

theorem completeWithKey_withRunOf {f : State → State}
    (hf : ∀ e s, complete (f (withRunOf e s)) = withEnvironmentOf e (complete (f s))) (e s : State) :
    completeWithKey f (withRunOf e s) = withEnvironmentOf e (completeWithKey f s) := by
  cases hv : s.keyValid with
  | false =>
    rw [completeWithKey_invalid f hv, completeWithKey_invalid f (s := withRunOf e s) hv]
    rfl
  | true => rw [completeWithKey_valid f hv, completeWithKey_valid f (s := withRunOf e s) hv, hf]

/-- A completion overwrites BUSY, DONE and PEND, and neither uses nor changes the environment. -/
theorem exec_withRunOf (i : Instr) (e s : State) :
    exec i (withRunOf e s) = mapNext (withEnvironmentOf e) (exec i s) := by
  cases i with
  | nop | keyExpand | subBytes | invSubBytes | shiftRows | invShiftRows | mixColumns | invMixColumns => rfl
  | encrypt | decrypt | ctrGen | ctrXor | addRoundKey0 | addRoundKey1 | addRoundKey2 | addRoundKey3 | addRoundKey4
  | addRoundKey5 | addRoundKey6 | addRoundKey7 | addRoundKey8 | addRoundKey9 | addRoundKey10 =>
    exact congrArg Outcome.next (completeWithKey_withRunOf (fun _ _ => rfl) e s)

/-! ### The poll of BUSY -/

theorem statusWord_and_one (s : State) : statusWord s &&& 0x00000001 = if s.busy then 1 else 0 := by
  have hbit : (statusWord s).getLsbD 0 = s.busy := statusWord_getLsbD s 0
  have hand : statusWord s &&& 1#32 = (BitVec.ofBool ((statusWord s).getLsbD 0)).setWidth 32 :=
    BitVec.and_one_eq_setWidth_ofBool_getLsbD
  rw [hbit] at hand
  refine hand.trans ?_
  cases s.busy <;> rfl

/-- The host holds the response `r` besides what it held. -/
def withResp (r : BusResp) (s : State) : State := { s with host := { s.host with resp := some r } }

section poll

variable {s : State} (hr : s.rst = false) (he : engineCommand s = none)
  (hn : hostNext s = some (.poll 0x008 0x00000001 0x00000000))

include hr he hn

theorem step_poll_busy (hb : s.busy = true) :
    step s = .next (withResp (okResp (statusWord s)) (passTurn s)) := by
  have hread : busRead 4 0x008 (passTurn s) = (okResp (statusWord s), passTurn s) :=
    busRead_offset_exact .status (.inr rfl)
  have hpoll : (busRead 4 0x008 (passTurn s)).1.data &&& 0x00000001 ≠ 0x00000000 := by
    rw [hread, okResp, statusWord_and_one, hb]
    decide
  rw [step_of_engineCommand_none hr he, hostTurn_of_some hn, hostLine_poll_again _ _ _ (by decide) hpoll, hread,
    receive_ok _ _ rfl]
  rfl

theorem step_poll_idle (hb : s.busy = false) :
    step s = .next (nextLine (withResp (okResp (statusWord s)) (passTurn s))) := by
  have hread : busRead 4 0x008 (passTurn s) = (okResp (statusWord s), passTurn s) :=
    busRead_offset_exact .status (.inr rfl)
  have hpoll : (busRead 4 0x008 (passTurn s)).1.data &&& 0x00000001 = 0x00000000 := by
    rw [hread, okResp, statusWord_and_one, hb]
    rfl
  rw [step_of_engineCommand_none hr he, hostTurn_of_some hn, hostLine_poll_done _ _ _ (by decide) hpoll, hread,
    receive_ok _ _ rfl]
  rfl

end poll

/-! ### The wait -/

/-- `t` waits for the command i, accepted in `s`, at the line after `s`'s. -/
structure Awaits (i : Instr) (s t : State) : Prop where
  engine : ∃ e, t = withRunOf e s
  busy   : t.busy = true
  pend   : t.pend = some i
  host   : t.host = { s.host with pc := s.host.pc + 1, resp := t.host.resp }

/-- A turn of the host that only keeps a response is one turn of the wait. -/
theorem Awaits.withResp_passTurn {i : Instr} {s t : State} (h : Awaits i s t) (r : BusResp) :
    Awaits i s (withResp r (passTurn t)) where
  engine := by
    obtain ⟨e, rfl⟩ := h.engine
    exact ⟨withResp r (passTurn (withRunOf e s)), rfl⟩
  busy := h.busy
  pend := h.pend
  host := congrArg (fun x => { x with resp := some r }) h.host

section wait

variable {i : Instr} {s : State} (hr : s.rst = false) (hs : s.host.stopped = false)
  (hpoll : s.host.prog[s.host.pc + 1]? = some (.poll 0x008 0x00000001 0x00000000))

include hs hpoll in
theorem hostNext_of_waits {t : State} (h : t.host = { s.host with pc := s.host.pc + 1, resp := t.host.resp }) :
    hostNext t = some (.poll 0x008 0x00000001 0x00000000) := by
  rw [hostNext, h]
  simp [hs, hpoll]

include hr hs hpoll

/-- A polling host reaches the state in which no turns are left (R304). -/
theorem Awaits.reaches_latency_zero {t : State} (h : Awaits i s t) :
    ∃ t', Reaches t t' ∧ Awaits i s t' ∧ t'.latency = 0 := by
  induction hk : t.latency generalizing t with
  | zero => exact ⟨t, .refl, h, hk⟩
  | succ k ih =>
    have hrst : t.rst = false := by
      obtain ⟨e, rfl⟩ := h.engine
      exact hr
    have he : engineCommand t = none := engineCommand_eq_none.2 (.inr (.inl (by omega)))
    have hstep := step_poll_busy hrst he (hostNext_of_waits hs hpoll h.host) h.busy
    obtain ⟨t', ht', ha, hz⟩ := ih (h.withResp_passTurn _) (by simp [withResp, hk])
    exact ⟨t', .head hstep ht', ha, hz⟩

/-- The wait ends with the command's completion and one more poll, after which the host is past it (R300). -/
theorem Awaits.reaches_completion {t u : State} (h : Awaits i s t) (hu : exec i s = .next u) :
    ∃ v, Reaches t v ∧ v = withEnvironmentOf v u ∧
      v.host = { s.host with pc := s.host.pc + 2, resp := v.host.resp } := by
  obtain ⟨t', ht', ha, hz⟩ := h.reaches_latency_zero hr hs hpoll
  obtain ⟨e, rfl⟩ := ha.engine
  have hur : u.rst = false := by
    obtain ⟨⟨_, _, _, _, _, h, _⟩, _⟩ := commandsKeepTheirWriteSets i s u hu
    exact h.trans hr
  have hexec : step (withRunOf e s) = .next (withEnvironmentOf e u) := by
    have he : engineCommand (withRunOf e s) = some i := engineCommand_eq_some.2 ⟨ha.busy, hz, ha.pend⟩
    rw [step_of_engineCommand_some (s := withRunOf e s) hr he, exec_withRunOf, hu]
    rfl
  have hub : u.busy = false := exec_busy hu
  have hpolled := step_poll_idle (s := withEnvironmentOf e u) hur (engineCommand_eq_none.2 (.inl hub))
    (hostNext_of_waits hs hpoll ha.host) hub
  refine ⟨_, ht'.trans (.head hexec (.single hpolled)), rfl, ?_⟩
  exact congrArg (fun x => { x with pc := x.pc + 1, resp := some (okResp (statusWord (withEnvironmentOf e u))) })
    ha.host

omit hpoll in
/-- The CMD write of a command that has the key it needs, from an idle engine, begins the wait (R95). -/
theorem step_cmd_awaits (hcmd : s.host.prog[s.host.pc]? = some (.wr 4 0x00C (encode i))) (hidle : Idle s)
    (hkey : i.needsKey = true → s.keyValid = true) : ∃ t, step s = .next t ∧ Awaits i s t := by
  obtain ⟨hb, _⟩ := hidle
  have hline : hostNext s = some (.wr 4 0x00C (encode i)) := by simp [hostNext, hs, hcmd]
  have hdecode : decode (encode i) = .ok i := decode_eq_ok_iff_eq_encode.2 rfl
  have haccept : busWrite 4 0x00C (encode i) (passTurn s) = (okResp 0, accept i (passTurn s)) := by
    rw [busWrite_cmd, writeCmd_accept (s := passTurn s) hb hdecode hkey]
  have hstep : step s = .next (nextLine (withResp (okResp 0) (accept i (passTurn s)))) := by
    rw [step_of_engineCommand_none hr (engineCommand_eq_none.2 (.inl hb)), hostTurn_of_some hline,
      hostLine_wr _ _ _ (by decide), haccept, receive_ok _ _ rfl]
    rfl
  exact ⟨_, hstep, ⟨nextLine (withResp (okResp 0) (accept i (passTurn s))), rfl⟩, rfl, rfl, rfl⟩

end wait

/-- Settles O54: the CMD write, the wait, and the completion. -/
theorem runEndsWithTheCommandsEffect : Obligations.RunEndsWithTheCommandsEffect := by
  intro s i before after hr hidle hs hkey hprog hpc
  have hcmd : s.host.prog[s.host.pc]? = some (.wr 4 0x00C (encode i)) := by
    simp [hprog, hpc, runLines, cmdLines, wrLine, Reg.offset]
  have hpoll : s.host.prog[s.host.pc + 1]? = some (.poll 0x008 0x00000001 0x00000000) := by
    simp [hprog, hpc, runLines, cmdLines, waitLines, Reg.offset]
  obtain ⟨t, ht, ha⟩ := step_cmd_awaits hr hs hcmd hidle hkey
  obtain ⟨v, hv, hengine, hhost⟩ := ha.reaches_completion hr hs hpoll (exec_eq_next i s)
  obtain ⟨n, hn⟩ := Reaches.exists_run (.head ht hv)
  refine ⟨n, v, _, exec_eq_next i s, hn, hengine, ?_, ?_, ?_⟩ <;> rw [hhost]
  · simp [hpc]
  · exact hs

end Sys2Proof.Machine
end

section
/-! SUPPORT. The host stream's lists: frames, blocks and chunks (45_host_stream.md R232 to R239). -/

namespace Sys2Proof.Machine

/-! ### The checks before any engine access -/

/-- Settles O57: the inputs are refused before the setup. -/
theorem streamErrorsBeforeAnyOutput : Obligations.StreamErrorsBeforeAnyOutput := by
  refine ⟨fun k f s h => ?_, fun k nonce s => rfl, fun k p s hp => ?_, fun k nonce s => ⟨rfl, rfl⟩⟩
  · have hinvalid : ¬ frameValid f = true := by
      simp only [frameValid, Bool.and_eq_true, decide_eq_true_eq, beq_iff_eq]
      omega
    exact if_neg hinvalid
  · exact if_neg (by simpa using hp)

/-! ### Blocks of a list of bytes -/

@[simp] theorem length_splitBlocks (n : Nat) (l : List Byte) : (splitBlocks n l).length = n := by
  induction n generalizing l with
  | zero => rfl
  | succ n ih => simp [splitBlocks, ih]

theorem splitBlocks_append {m : Nat} {a : List Byte} (ha : a.length = 16 * m) (n : Nat) (b : List Byte) :
    splitBlocks (m + n) (a ++ b) = splitBlocks m a ++ splitBlocks n b := by
  induction m generalizing a with
  | zero =>
    obtain rfl : a = [] := List.length_eq_zero_iff.1 ha
    simp [splitBlocks]
  | succ m ih =>
    have hfirst : blockOfBytes (a ++ b) = blockOfBytes a := by
      ext i hi
      simp [blockOfBytes, List.getElem?_append_left (show i < a.length by omega)]
    have hdrop : (a ++ b).drop 16 = a.drop 16 ++ b := List.drop_append_of_le_length (by omega)
    rw [Nat.add_right_comm, splitBlocks, splitBlocks, hfirst, hdrop, ih (by simp; omega), List.cons_append]

@[simp] theorem joinBlocks_cons (b : Block) (bs : List Block) : joinBlocks (b :: bs) = b.toList ++ joinBlocks bs := rfl

theorem joinBlocks_append (as bs : List Block) : joinBlocks (as ++ bs) = joinBlocks as ++ joinBlocks bs :=
  List.flatMap_append

@[simp] theorem length_joinBlocks (bs : List Block) : (joinBlocks bs).length = 16 * bs.length := by
  induction bs with
  | nil => rfl
  | cons b bs ih =>
    simp [ih]
    omega

theorem blockOfBytes_toList_append (b : Block) (l : List Byte) : blockOfBytes (b.toList ++ l) = b := by
  ext i hi
  simp [blockOfBytes, List.getElem?_append_left (show i < b.toList.length by simpa using hi), hi]

theorem toList_blockOfBytes {l : List Byte} (h : 16 ≤ l.length) : (blockOfBytes l).toList = l.take 16 := by
  refine List.ext_getElem (by simp [h]) fun i h1 h2 => ?_
  have hi : i < l.length := by simp at h1; omega
  simp [blockOfBytes, hi]

/-- Splitting undoes joining. -/
theorem splitBlocks_joinBlocks (bs : List Block) : splitBlocks bs.length (joinBlocks bs) = bs := by
  induction bs with
  | nil => rfl
  | cons b bs ih =>
    have hdrop : (b.toList ++ joinBlocks bs).drop 16 = joinBlocks bs := List.drop_left' (by simp)
    rw [joinBlocks_cons, List.length_cons, splitBlocks, blockOfBytes_toList_append, hdrop, ih]

/-- Joining undoes the splitting of whole blocks. -/
theorem joinBlocks_splitBlocks {n : Nat} {l : List Byte} (h : l.length = 16 * n) :
    joinBlocks (splitBlocks n l) = l := by
  induction n generalizing l with
  | zero =>
    obtain rfl : l = [] := List.length_eq_zero_iff.1 h
    rfl
  | succ n ih =>
    rw [splitBlocks, joinBlocks_cons, toList_blockOfBytes (by omega), ih (by simp; omega), List.take_append_drop]

/-! ### Padding -/

theorem padded_of_whole {l : List Byte} (h : 16 ∣ l.length) : padded l = l := by
  rw [padded, (padLength_eq_zero_iff _).2 h, List.replicate_zero, List.append_nil]

/-- Cut after a whole number of blocks, a list is padded at its end alone (R233, R238). -/
theorem padded_take_append_drop {buf : Nat} (hbuf : 16 ∣ buf) (l : List Byte) :
    padded (l.take buf) ++ padded (l.drop buf) = padded l := by
  by_cases hl : buf ≤ l.length
  · have htake : (l.take buf).length = buf := by simp [hl]
    have hpad : padLength (l.drop buf).length = padLength l.length := by
      simp only [padLength, List.length_drop]
      omega
    rw [padded_of_whole (htake.symm ▸ hbuf), padded, padded, hpad, ← List.append_assoc, List.take_append_drop]
  · have hdrop : l.drop buf = [] := List.drop_eq_nil_of_le (by omega)
    rw [hdrop, List.take_of_length_le (by omega), padded_of_whole (l := []) (by simp), List.append_nil]

end Sys2Proof.Machine
end

section
/-! SUPPORT. The stream driver over chunks: its output is that of the whole input, whatever the engine answers
(45_host_stream.md R238, R239). -/

namespace Sys2Proof.Machine

/-- Two runs of the driver one after the other, with their outputs joined. -/
theorem cryptBlocks_append (as bs : List Block) (s : State) :
    cryptBlocks (as ++ bs) s =
      (cryptBlocks as s).bind fun (cs, t) => (cryptBlocks bs t).bind fun (ds, u) => .ok (cs ++ ds, u) := by
  induction as generalizing s with
  | nil =>
    simp only [cryptBlocks, List.nil_append, Except.bind]
    cases cryptBlocks bs s <;> rfl
  | cons a as ih =>
    simp only [cryptBlocks, List.cons_append, ih, Except.bind]
    cases cryptBlock a s with
    | error e => rfl
    | ok x =>
      dsimp only
      cases cryptBlocks as x.2 with
      | error e => rfl
      | ok y =>
        dsimp only
        cases cryptBlocks bs y.2 <;> rfl

theorem cryptBytes_append {a : List Byte} (ha : 16 ∣ a.length) (b : List Byte) (s : State) :
    cryptBytes (a ++ b) s =
      (cryptBytes a s).bind fun (x, t) => (cryptBytes b t).bind fun (y, u) => .ok (x ++ y, u) := by
  obtain ⟨m, hm⟩ := ha
  have hblocks : (a ++ b).length / 16 = a.length / 16 + b.length / 16 := by
    rw [List.length_append]
    omega
  rw [cryptBytes, hblocks, splitBlocks_append (by omega), cryptBlocks_append]
  simp only [cryptBytes, Except.bind]
  cases cryptBlocks (splitBlocks (a.length / 16) a) s with
  | error e => rfl
  | ok x =>
    dsimp only
    cases cryptBlocks (splitBlocks (b.length / 16) b) x.2 with
    | error e => rfl
    | ok y => simp only [joinBlocks_append]

/-- Chunks of whole blocks, the last one padded, are the padded whole (R238). -/
theorem cryptChunks_chunks {buf : Nat} (hpos : 16 ≤ buf) (hbuf : 16 ∣ buf) {fuel : Nat} {l : List Byte}
    (hfuel : l.length ≤ fuel) (s : State) : cryptChunks (chunks buf fuel l) s = cryptBytes (padded l) s := by
  induction fuel generalizing l s with
  | zero =>
    obtain rfl : l = [] := List.length_eq_zero_iff.1 (Nat.le_zero.1 hfuel)
    rfl
  | succ fuel ih =>
    cases l with
    | nil => rfl
    | cons b bs =>
      have hrest : ((b :: bs).drop buf).length ≤ fuel := by
        simp only [List.length_drop, List.length_cons] at hfuel ⊢
        omega
      rw [chunks, cryptChunks, ← padded_take_append_drop hbuf (b :: bs), cryptBytes_append (by simp)]
      simp only [ih hrest]

/-- Settles O60: after the setup both drivers run over the same padded bytes; a valid frame's are whole blocks. -/
theorem outputDoesNotDependOnBufferSize : Obligations.OutputDoesNotDependOnBufferSize := by
  intro buf k nonce input s hpos hbuf
  constructor
  · simp only [encryptChunked, encryptStream, cryptChunks_chunks hpos hbuf le_rfl]
  · cases input with
    | none => rfl
    | some f =>
      by_cases hf : frameValid f = true
      · have hwhole : 16 ∣ (f.drop 9).length := by
          simp only [frameValid, Bool.and_eq_true, beq_iff_eq] at hf
          simp only [List.length_drop]
          omega
        simp only [decryptChunked, decryptStream, if_pos hf,
          cryptChunks_chunks hpos hbuf (show (f.drop 9).length ≤ f.length by simp), padded_of_whole hwhole]
      · simp only [decryptChunked, decryptStream, if_neg hf]

end Sys2Proof.Machine
end

section
/-! SUPPORT. The stream driver on an idle engine: setup, one block, a list of blocks, and the two directions
(45_host_stream.md R230 to R235). -/

namespace Sys2Proof.Machine

open Host (Outcome)

/-! ### Host accesses on an idle engine -/

theorem hostWrite_idle {s : State} (hb : s.busy = false) (r : Reg) (v : Word) : hostWrite r v s = writeReg v s r :=
  congrArg Prod.snd (busWrite_offset_undropped r v (.inl hb))

theorem hostRead_idle {s : State} (hb : s.busy = false) (r : Reg) : hostRead r s = readReg s r :=
  congrArg (·.1.data) (busRead_offset_exact r (.inl hb))

/-- `run M` on an idle engine that has the key M needs ends in M's completion, up to the environment (R102). -/
theorem runCommand_idle {s : State} (hb : s.busy = false) {i : Instr} (hkey : i.needsKey = true → s.keyValid = true) :
    runCommand i s = withEnvironmentOf (accept i s) (afterCommand i s) := by
  have hdecode : decode (encode i) = .ok i := decode_eq_ok_iff_eq_encode.2 rfl
  have hwrite : hostWrite .cmd (encode i) s = accept i s :=
    (hostWrite_idle hb .cmd _).trans (writeCmd_accept hb hdecode hkey)
  have hexec : exec i (accept i s) = .next (withEnvironmentOf (accept i s) (afterCommand i s)) := by
    rw [show accept i s = withRunOf (accept i s) s from rfl, exec_withRunOf, exec_eq_next]
    rfl
  rw [runCommand, hwrite]
  simp [awaitIdle, hexec]

/-- Four words written one after the other are the whole value. -/
theorem setWord_all (b k : Block) :
    setWord (setWord (setWord (setWord b 0 (wordOf k 0)) 1 (wordOf k 1)) 2 (wordOf k 2)) 3 (wordOf k 3) = k :=
  block_ext_words fun j => by
    match j with
    | 0 | 1 | 2 | 3 => simp

theorem setNonceWord_all (m n : Nonce) : setNonceWord (setNonceWord m 0 (nonceWord n 0)) 1 (nonceWord n 1) = n := by
  ext1 i hi
  interval_cases i <;> simp [setNonceWord, nonceWord]

theorem setCtr_all (c d : BitVec 64) : setCtrLo (setCtrHi c (d.extractLsb' 32 32)) (d.extractLsb' 0 32) = d := by
  have hhi : (setCtrHi c (d.extractLsb' 32 32)).extractLsb' 32 32 = d.extractLsb' 32 32 :=
    BitVec.extractLsb'_append_eq_left
  rw [setCtrLo, hhi]
  ext k hk
  grind

section load

variable {s : State} (hb : s.busy = false)

include hb

theorem ldKey_idle (k : Block) : ldKey k s = { s with key := k, keyValid := false } := by
  rw [ldKey, hostWrite_idle hb, hostWrite_idle ?_ (.key 1), hostWrite_idle ?_ (.key 2), hostWrite_idle ?_ (.key 3)]
  · simp only [writeReg, setWord_all]
  all_goals simp [writeReg, hb]

theorem ldState_idle (b : Block) : ldState b s = { s with state := b } := by
  rw [ldState, hostWrite_idle hb, hostWrite_idle ?_ (.state 1), hostWrite_idle ?_ (.state 2),
    hostWrite_idle ?_ (.state 3)]
  · simp only [writeReg, setWord_all]
  all_goals simp [writeReg, hb]

theorem ldNonce_idle (n : Nonce) : ldNonce n s = { s with nonce := n } := by
  rw [ldNonce, hostWrite_idle hb, hostWrite_idle]
  · simp only [writeReg, setNonceWord_all]
  · exact hb

theorem ldCtr_idle (c : BitVec 64) : ldCtr c s = { s with ctr := c } := by
  rw [ldCtr, hostWrite_idle hb, hostWrite_idle]
  · simp only [writeReg, setCtr_all]
  · exact hb

theorem rdState_idle : rdState s = s.state := by
  simp only [rdState, hostRead_idle hb, readReg]
  exact ofWords_wordOf s.state

end load

/-- The host's check after a command passes on an engine without error flags (R230). -/
theorem statusClean_of_noErrors {s : State} (hb : s.busy = false) (h : NoErrors s) : statusClean s = true := by
  obtain ⟨hbusy, hcmd, hnokey, hbus⟩ := h
  have hzero : statusWord s &&& 0x000000B8 = 0 := by
    refine BitVec.eq_of_getLsbD_eq fun i _ => ?_
    rw [BitVec.getLsbD_and, statusWord_getLsbD]
    match i with
    | 0 | 1 | 2 | 3 | 4 | 5 | 6 | 7 => simp [hbusy, hcmd, hnokey, hbus]
    | n + 8 => simp
  rw [statusClean, hostRead_idle hb]
  exact beq_iff_eq.2 hzero

/-! ### A stream's state -/

/-- Between two blocks of a stream: idle, without error flags, with the key's schedule, the nonce, and the counter value
of the next block (R231, R234). -/
structure StreamReady (k : Block) (n : Nonce) (c : BitVec 64) (s : State) : Prop where
  idle     : Idle s
  clean    : NoErrors s
  keyValid : s.keyValid = true
  rk       : s.rk = keyExpansion k
  nonce    : s.nonce = n
  ctr      : s.ctr = c

/-- The setup makes an idle engine without error flags ready for the first block (R231). -/
theorem setup_ready (k : Block) (n : Nonce) {s : State} (hidle : Idle s) (hclean : NoErrors s) :
    ∃ t, setup k n s = .ok t ∧ StreamReady k n 1 t := by
  obtain ⟨hb, _⟩ := hidle
  obtain ⟨hbusy, hcmd, hnokey, hbus⟩ := hclean
  have hrun := runCommand_idle (s := { s with key := k, keyValid := false }) (i := .keyExpand) hb nofun
  generalize accept .keyExpand { s with key := k, keyValid := false } = e at hrun
  have hstatus : statusClean (runCommand .keyExpand (ldKey k s)) = true := by
    rw [ldKey_idle hb, hrun]
    exact statusClean_of_noErrors rfl ⟨hbusy, hcmd, hnokey, hbus⟩
  refine ⟨_, if_pos hstatus, ?_⟩
  rw [ldKey_idle hb, hrun, ldNonce_idle rfl, ldCtr_idle rfl, hostWrite_idle rfl]
  refine ⟨⟨rfl, rfl⟩, ⟨?_, ?_, ?_, ?_⟩, rfl, rfl, rfl, rfl⟩ <;> simp [writeReg]

/-- The keystream block of a counter value (R210). -/
def keystreamBlock (k : Block) (n : Nonce) (c : BitVec 64) : Block := cipher (counterBlock .be n c) (keyExpansion k)

theorem StreamReady.withEnvironmentOf {k : Block} {n : Nonce} {c : BitVec 64} {s : State} (h : StreamReady k n c s)
    (e : State) : StreamReady k n c (withEnvironmentOf e s) :=
  ⟨h.idle, h.clean, h.keyValid, h.rk, h.nonce, h.ctr⟩

/-- Loading a block is no access to the rest (R230). -/
theorem ldState_ready {k : Block} {n : Nonce} {c : BitVec 64} {s : State} (h : StreamReady k n c s) (b : Block) :
    StreamReady k n c (ldState b s) ∧ (ldState b s).state = b := by
  rw [ldState_idle h.idle.1]
  exact ⟨⟨h.idle, h.clean, h.keyValid, h.rk, h.nonce, h.ctr⟩, rfl⟩

/-- CTR_XOR on a block of a stream (R214). -/
theorem exec_ctrXor_ready {k : Block} {n : Nonce} {c : BitVec 64} {s : State} (h : StreamReady k n c s) :
    ∃ t, exec .ctrXor s = .next t ∧ t.state = xorBlock s.state (keystreamBlock k n c) ∧ StreamReady k n (c + 1) t := by
  obtain ⟨_, ⟨hbusy, hcmd, hnokey, hbus⟩, hv, hrk, hnonce, hctr⟩ := h
  obtain ⟨t, ht, hks, hbytes, hcount, _, hframe⟩ := ctrXorCombinesKeystream s hv
  have hkeystream : t.ks = keystreamBlock k n c := by rw [hks, keystreamBlock, hrk, hnonce, hctr]
  have hstate : t.state = xorBlock s.state (keystreamBlock k n c) := by
    ext1 i hi
    rw [xorBlock_getElem, ← hkeystream]
    exact hbytes ⟨i, hi⟩
  have hnext : t.ctr = c + 1 := BitVec.eq_of_toNat_eq (by rw [hcount, hctr, BitVec.toNat_add]; rfl)
  exact ⟨t, ht, hstate, ⟨congrArg State.busy hframe, congrArg State.pend hframe⟩,
    ⟨(congrArg State.errBusy hframe).trans hbusy, (congrArg State.errCmd hframe).trans hcmd,
      (congrArg State.errNokey hframe).trans hnokey, (congrArg State.errBus hframe).trans hbus⟩,
    (congrArg State.keyValid hframe).trans hv, (congrArg State.rk hframe).trans hrk,
    (congrArg State.nonce hframe).trans hnonce, hnext⟩

theorem runCommand_ctrXor_ready {k : Block} {n : Nonce} {c : BitVec 64} {s : State} (h : StreamReady k n c s) :
    (runCommand .ctrXor s).state = xorBlock s.state (keystreamBlock k n c) ∧
      StreamReady k n (c + 1) (runCommand .ctrXor s) := by
  obtain ⟨t, ht, hstate, htready⟩ := exec_ctrXor_ready h
  have hafter : afterCommand .ctrXor s = t := Outcome.next.inj ((exec_eq_next .ctrXor s).symm.trans ht)
  rw [runCommand_idle h.idle.1 fun _ => h.keyValid, hafter]
  exact ⟨hstate, htready.withEnvironmentOf _⟩

/-- One block of a stream is combined with its keystream block, and the engine is ready for the next (R234). -/
theorem cryptBlock_ready {k : Block} {n : Nonce} {c : BitVec 64} {s : State} (h : StreamReady k n c s) (b : Block) :
    ∃ t, cryptBlock b s = .ok (xorBlock b (keystreamBlock k n c), t) ∧ StreamReady k n (c + 1) t := by
  obtain ⟨hload, hb⟩ := ldState_ready h b
  obtain ⟨hstate, hready⟩ := runCommand_ctrXor_ready hload
  have hread : rdState (runCommand .ctrXor (ldState b s)) = xorBlock b (keystreamBlock k n c) := by
    rw [rdState_idle hready.idle.1, hstate, hb]
  have hstatus := statusClean_of_noErrors hready.idle.1 hready.clean
  exact ⟨_, (if_pos hstatus).trans (by rw [hread]), hready⟩

/-- A list of blocks, each combined with its keystream block: those of the counter values j + 1, j + 2 and on (R234). -/
def combined (k : Block) (n : Nonce) (j : Nat) (bs : List Block) : List Block :=
  (bs.zipIdx j).map fun (b, i) => xorBlock b (keystreamBlock k n (BitVec.ofNat 64 (i + 1)))

@[simp] theorem combined_cons (k : Block) (n : Nonce) (j : Nat) (b : Block) (bs : List Block) :
    combined k n j (b :: bs) = xorBlock b (keystreamBlock k n (BitVec.ofNat 64 (j + 1))) :: combined k n (j + 1) bs :=
  rfl

@[simp] theorem length_combined (k : Block) (n : Nonce) (j : Nat) (bs : List Block) :
    (combined k n j bs).length = bs.length := by
  simp [combined]

/-- Combining twice restores the blocks (R215). -/
theorem combined_combined (k : Block) (n : Nonce) (j : Nat) (bs : List Block) :
    combined k n j (combined k n j bs) = bs := by
  induction bs generalizing j with
  | nil => rfl
  | cons b bs ih => rw [combined_cons, combined_cons, ih, xorBlock_cancel_right]

/-- A list of blocks through the engine (R234, R235). -/
theorem cryptBlocks_ready {k : Block} {n : Nonce} (bs : List Block) {j : Nat} {s : State}
    (h : StreamReady k n (BitVec.ofNat 64 (j + 1)) s) :
    ∃ t, cryptBlocks bs s = .ok (combined k n j bs, t) ∧ StreamReady k n (BitVec.ofNat 64 (j + bs.length + 1)) t := by
  induction bs generalizing j s with
  | nil => exact ⟨s, rfl, h⟩
  | cons b bs ih =>
    obtain ⟨t, ht, hready⟩ := cryptBlock_ready h b
    obtain ⟨u, hu, huready⟩ := ih (j := j + 1) (by rw [BitVec.ofNat_add]; exact hready)
    refine ⟨u, ?_, ?_⟩
    · simp only [cryptBlocks, ht, hu, Except.bind, combined_cons]
    · rwa [List.length_cons, ← Nat.add_assoc, Nat.add_right_comm j]

/-- Whole blocks of bytes through the engine, from the first block on. -/
theorem cryptBytes_ready {k : Block} {n : Nonce} {s : State} (h : StreamReady k n 1 s) {m : Nat} {l : List Byte}
    (hl : l.length = 16 * m) :
    ∃ t, cryptBytes l s = .ok (joinBlocks (combined k n 0 (splitBlocks m l)), t) ∧
      StreamReady k n (BitVec.ofNat 64 (m + 1)) t := by
  obtain ⟨t, ht, htready⟩ := cryptBlocks_ready (splitBlocks m l) (j := 0) h
  have hm : l.length / 16 = m := by omega
  refine ⟨t, ?_, by simpa using htready⟩
  simp only [cryptBytes, hm, ht, Except.bind]

/-! ### The two directions -/

/-- The blocks of an encrypted file (R234). -/
def encryptedBlocks (k : Block) (n : Nonce) (p : List Byte) : List Block :=
  combined k n 0 (splitBlocks ((p.length + 15) / 16) (padded p))

@[simp] theorem length_encryptedBlocks (k : Block) (n : Nonce) (p : List Byte) :
    (encryptedBlocks k n p).length = (p.length + 15) / 16 := by
  simp [encryptedBlocks]

/-- Decrypted, the blocks are those of the padded plaintext (R235). -/
theorem combined_encryptedBlocks (k : Block) (n : Nonce) (p : List Byte) :
    joinBlocks (combined k n 0 (encryptedBlocks k n p)) = padded p := by
  rw [encryptedBlocks, combined_combined, joinBlocks_splitBlocks (length_padded p)]

/-- The frame of an encrypted file (R232, R234). -/
def frame (k : Block) (n : Nonce) (p : List Byte) : List Byte := header n p.length ++ joinBlocks (encryptedBlocks k n p)

theorem encryptStream_eq_frame (k : Block) (n : Nonce) {p : List Byte} (hp : p ≠ []) {s : State} (hidle : Idle s)
    (hclean : NoErrors s) :
    ∃ t, encryptStream k (some n) (some p) s = .ok (frame k n p, t) ∧
      StreamReady k n (BitVec.ofNat 64 ((p.length + 15) / 16 + 1)) t := by
  obtain ⟨u, hu, hready⟩ := setup_ready k n hidle hclean
  obtain ⟨t, ht, htready⟩ := cryptBytes_ready hready (length_padded p)
  have hlength : p.length ≠ 0 := by simpa using hp
  refine ⟨t, ?_, htready⟩
  simp only [encryptStream, if_neg hlength, hu, ht, Except.bind, frame, encryptedBlocks]

/-- Settles O58: the stream is the setup and one CTR_XOR for each block. -/
theorem encryptStreamIsTheKeystreamSum : Obligations.EncryptStreamIsTheKeystreamSum := by
  intro k n p s hidle hclean hp
  obtain ⟨t, ht, hready⟩ := encryptStream_eq_frame k n hp hidle hclean
  exact ⟨t, ht, hready.ctr, hready.idle, hready.clean⟩

/-- The frame of a file in its parts (R232). -/
theorem frame_parts (k : Block) (n : Nonce) (p : List Byte) :
    frameNonce (frame k n p) = n ∧ framePad (frame k n p) = padLength p.length ∧
      (frame k n p).drop 9 = joinBlocks (encryptedBlocks k n p) := by
  have hframe : frame k n p =
      n.toList ++ (BitVec.ofNat 8 (padLength p.length) :: joinBlocks (encryptedBlocks k n p)) := by
    simp [frame, header]
  refine ⟨?_, ?_, List.drop_left' (length_header n p.length)⟩
  · ext1 i hi
    simp [frameNonce, hframe, List.getElem?_append_left (show i < n.toList.length by simpa using hi), hi]
  · have hpad := padLength_le p.length
    simp [framePad, hframe]
    omega

/-- The padded plaintext without its padding (R235). -/
theorem padded_take_length_sub (p : List Byte) : (padded p).take ((padded p).length - padLength p.length) = p := by
  have hlength : (padded p).length - padLength p.length = p.length := by simp [padded]
  rw [hlength, padded, List.take_left]

/-- The frame of a non-empty file passes the decrypt side's checks (R236, R237). -/
theorem frameValid_frame (k : Block) (n : Nonce) {p : List Byte} (hp : p ≠ []) : frameValid (frame k n p) = true := by
  obtain ⟨_, hframePad, _⟩ := frame_parts k n p
  have hpad := padLength_le p.length
  have hlength : 0 < p.length := List.length_pos_iff.2 hp
  have hframe : (frame k n p).length = 9 + 16 * ((p.length + 15) / 16) := by simp [frame]
  rw [framePad] at hframePad
  simp only [frameValid, hframePad, hframe, Bool.and_eq_true, decide_eq_true_eq, beq_iff_eq]
  omega

/-- Settles O59: both directions combine the blocks with the same keystream, and the padding is cut off. -/
theorem decryptStreamInvertsEncryptStream : Obligations.DecryptStreamInvertsEncryptStream := by
  intro k n p s s' hidle hclean hidle' hclean' hp
  obtain ⟨t, ht, _⟩ := encryptStream_eq_frame k n hp hidle hclean
  obtain ⟨u, hu, hready⟩ := setup_ready k n hidle' hclean'
  obtain ⟨hnonce, hpad, hdrop⟩ := frame_parts k n p
  have hblocks := splitBlocks_joinBlocks (encryptedBlocks k n p)
  obtain ⟨t', ht', _⟩ := cryptBytes_ready hready (length_joinBlocks (encryptedBlocks k n p))
  rw [hblocks, combined_encryptedBlocks] at ht'
  refine ⟨frame k n p, t, t', ht, ?_⟩
  simp only [decryptStream, if_pos (frameValid_frame k n hp), hnonce, hu, hdrop, ht', hpad, Except.bind,
    padded_take_length_sub]

end Sys2Proof.Machine
end
